-- ==== Sys2Proof/Word.lean ====
section
/-! DEFINITION. The widths of the machine (00_scope.md R6, R8): bytes and 16-bit words. -/

namespace Sys2Proof

/-- An 8-bit value: an accumulator, the CCR, a byte of memory (00_scope.md R6). -/
abbrev Byte := BitVec 8

/-- A 16-bit value: D, X, Y, SP, PC, an address (00_scope.md R6). -/
abbrev Word := BitVec 16

end Sys2Proof
end

