-- ==== Sys2Proof/Config.lean ====
section
/-! DEFINITION. What an implementation fixes and the free values (00_scope.md R7). -/

namespace Sys2Proof

/-- The four opcode pages (30_encoding.md R84): the primary table is page 1, as this spec numbers them. -/
inductive Page where
  | p1 | p2 | p3 | p4
  deriving DecidableEq, Repr

/-- `RESET_PC_SOURCE` (00_scope.md R7, OPEN). -/
inductive ResetPcSource where
  /-- PC is unspecified until the host calls setPC. -/
  | host
  /-- PC is the big-endian word at 0xFFFE. -/
  | vector
  deriving DecidableEq, Repr

/-- `BRBIT_FLAGS` (00_scope.md R7): what brset and brclr do to the flags. -/
inductive BrbitFlags where
  /-- N and Z from the masked value, V cleared. -/
  | doc
  /-- No flag changes (the spec's value `none`). -/
  | unchanged
  deriving DecidableEq, Repr

/-- `BRBIT_FLAGS` at the spec's default (90_conflicts.md C7, 92 D25). DESIGN CHOICE, log entry 9. -/
def Config.brbitFlags : BrbitFlags := .doc

/-- `INVALID_OPCODE_CYCLES` (00_scope.md R7, OPEN): a constant with no body, so no proof can see its value. Log entry 5. -/
opaque Config.invalidOpcodeCycles : Page → Nat

/-- The bit a draw leaves: V after daa (41_arithmetic.md R159). No body. Log entry 7. -/
opaque Config.freeBit : Nat → Bool

/-- The word a draw leaves (`draw_16()`, 00_scope.md R12): the results of an fdiv overflow. No body. Log entry 7. -/
opaque Config.freeWord : Nat → Word

end Sys2Proof
end

