-- ==== Sys2Proof/Machine/Bits.lean ====
section
/-! DEFINITION. Byte order and extension helpers (00_scope.md R8, R9). -/

namespace Sys2Proof.Machine

/-- `v[15:8]`. -/
def hiByte (v : Word) : Byte := v.extractLsb' 8 8

/-- `v[7:0]`. -/
def loByte (v : Word) : Byte := v.extractLsb' 0 8

/-- `hi:lo`, the concatenation with `hi` in bits 15..8 (R8). -/
def joinBytes (hi lo : Byte) : Word := hi ++ lo

/-- `zext_16(v)` (R9). -/
def zext16 (v : Byte) : Word := v.setWidth 16

/-- `sext_16(v)` (R9). -/
def sext16 (v : Byte) : Word := v.signExtend 16

end Sys2Proof.Machine
end

