-- ==== Sys2Proof/Machine/Flags.lean ====
section
/-! DEFINITION. The condition codes as pure functions of the CCR byte: the flag primitives (10_state.md R23 to R25) and the flag
building blocks (R35 to R42), with the shift, compare, decimal-adjust and bit-branch computations of files 41 to 43. A function
that also gives a result gives it beside the new CCR. -/

namespace Sys2Proof.Machine

open Sys2Proof

/-- The flags of the CCR (10_state.md R23). -/
inductive Flag where
  | c | v | z | n | i | h | x | s
  deriving DecidableEq, Repr

/-- The bit a flag stands at (R23). -/
def Flag.bit : Flag → Nat
  | .c => 0
  | .v => 1
  | .z => 2
  | .n => 3
  | .i => 4
  | .h => 5
  | .x => 6
  | .s => 7

/-- The byte with the flag's bit alone. -/
def Flag.mask : Flag → Byte
  | .c => 0x01
  | .v => 0x02
  | .z => 0x04
  | .n => 0x08
  | .i => 0x10
  | .h => 0x20
  | .x => 0x40
  | .s => 0x80

/-- The flag in a CCR byte. -/
def ccrBit (ccr : Byte) (f : Flag) : Bool := ccr.getLsbD f.bit

/-- `SetBits(m)` (R25): bit 6 is masked off, so it can never set X. -/
def setBits (m ccr : Byte) : Byte := ccr ||| (m &&& 0xBF)

/-- `ClearBits(m)` (R25). -/
def clearBits (m ccr : Byte) : Byte := ccr &&& ~~~m

/-- `F <- b` (R25). -/
def putFlag (f : Flag) (b : Bool) (ccr : Byte) : Byte :=
  if b then setBits f.mask ccr else clearBits f.mask ccr

/-- `SetCCR(v)` (R24): every bit from v, but X only if it was 1 and v's is 1. -/
def setCcrByte (v ccr : Byte) : Byte := (v &&& 0xBF) ||| (v &&& ccr &&& 0x40)

/-- An 8-bit result and the new CCR. -/
structure Res8 where
  value : Byte
  ccr : Byte
  deriving DecidableEq, Repr

/-- A 16-bit result and the new CCR. -/
structure Res16 where
  value : Word
  ccr : Byte
  deriving DecidableEq, Repr

/-- `NZ8(r)` (R35). -/
def nz8 (r ccr : Byte) : Byte := putFlag .z (r == 0) (putFlag .n (r.getLsbD 7) ccr)

/-- `NZ16(r)` (R36). -/
def nz16 (r : Word) (ccr : Byte) : Byte := putFlag .z (r == 0) (putFlag .n (r.getLsbD 15) ccr)

/-- `Logic8(r)` (R41). -/
def logic8 (r ccr : Byte) : Byte := putFlag .v false (nz8 r ccr)

/-- `Logic16(r)` (R41). -/
def logic16 (r : Word) (ccr : Byte) : Byte := putFlag .v false (nz16 r ccr)

/-- `Add8(a, m, c)` (R37). -/
def add8 (a m : Byte) (c : Bool) (ccr : Byte) : Res8 :=
  let raw := a.toNat + m.toNat + c.toNat
  let r := BitVec.ofNat 8 raw
  let half := (a &&& 0x0F).toNat + (m &&& 0x0F).toNat + c.toNat
  let v := (a.getLsbD 7 == m.getLsbD 7) && (r.getLsbD 7 != a.getLsbD 7)
  ⟨r, putFlag .c (decide (raw > 0xFF)) (putFlag .v v (nz8 r (putFlag .h (decide (half > 0x0F)) ccr)))⟩

/-- `Sub8(a, m, c)` (R38): H is not written. -/
def sub8 (a m : Byte) (c : Bool) (ccr : Byte) : Res8 :=
  let raw : Int := (a.toNat : Int) - m.toNat - c.toNat
  let r := BitVec.ofInt 8 raw
  let v := (a.getLsbD 7 != m.getLsbD 7) && (m.getLsbD 7 == r.getLsbD 7)
  ⟨r, putFlag .c (decide (raw < 0)) (putFlag .v v (nz8 r ccr))⟩

/-- `Add16(a, m)` (R39): H is not written. -/
def add16 (a m : Word) (ccr : Byte) : Res16 :=
  let raw := a.toNat + m.toNat
  let r := BitVec.ofNat 16 raw
  let v := (a.getLsbD 15 == m.getLsbD 15) && (r.getLsbD 15 != a.getLsbD 15)
  ⟨r, putFlag .c (decide (raw > 0xFFFF)) (putFlag .v v (nz16 r ccr))⟩

/-- `Sub16(a, m)` (R40). -/
def sub16 (a m : Word) (ccr : Byte) : Res16 :=
  let raw : Int := (a.toNat : Int) - m.toNat
  let r := BitVec.ofInt 16 raw
  let v := (a.getLsbD 15 != m.getLsbD 15) && (m.getLsbD 15 == r.getLsbD 15)
  ⟨r, putFlag .c (decide (raw < 0)) (putFlag .v v (nz16 r ccr))⟩

/-- `ShiftFlags8(r, co)` (R42): C is the bit shifted out, V is N XOR C. -/
def shiftFlags8 (r : Byte) (co : Bool) (ccr : Byte) : Byte :=
  putFlag .v (r.getLsbD 7 ^^ co) (nz8 r (putFlag .c co ccr))

/-- `ShiftFlags16(r, co)` (R42). -/
def shiftFlags16 (r : Word) (co : Bool) (ccr : Byte) : Byte :=
  putFlag .v (r.getLsbD 15 ^^ co) (nz16 r (putFlag .c co ccr))

/-- The clear family (40 R98 to R100): the result 0, N = 0, Z = 1, V = 0, C = 0. -/
def clr8 (ccr : Byte) : Res8 :=
  ⟨0x00, putFlag .c false (putFlag .v false (putFlag .z true (putFlag .n false ccr)))⟩

/-- The increment family (41 R147 to R149): C and H are not written. -/
def inc8 (v ccr : Byte) : Res8 := ⟨v + 1, putFlag .v (v == 0x7F) (nz8 (v + 1) ccr)⟩

/-- The decrement family (41 R150 to R152): C and H are not written. -/
def dec8 (v ccr : Byte) : Res8 := ⟨v - 1, putFlag .v (v == 0x80) (nz8 (v - 1) ccr)⟩

/-- The negate family (41 R153 to R155): `Sub8(0x00, v, 0)`. -/
def neg8 (v ccr : Byte) : Res8 := sub8 0x00 v false ccr

/-- The test family (41 R156 to R158). -/
def tst8 (v ccr : Byte) : Byte := putFlag .c false (putFlag .v false (nz8 v ccr))

/-- The complement family (42 R179 to R181): `0xFF - v`, V = 0, C = 1. -/
def com8 (v ccr : Byte) : Res8 :=
  ⟨0xFF - v, putFlag .c true (putFlag .v false (nz8 (0xFF - v) ccr))⟩

/-- Arithmetic shift left (42 R182 to R184). -/
def asl8 (v ccr : Byte) : Res8 :=
  let r := BitVec.ofNat 8 (v.toNat * 2)
  ⟨r, shiftFlags8 r (v.getLsbD 7) ccr⟩

/-- Arithmetic shift right (42 R185 to R187): bit 7 kept. -/
def asr8 (v ccr : Byte) : Res8 :=
  let r := BitVec.ofNat 8 (v.toNat / 2) ||| (v &&& 0x80)
  ⟨r, shiftFlags8 r (v.getLsbD 0) ccr⟩

/-- Logical shift right (42 R188 to R190): bit 7 becomes 0. -/
def lsr8 (v ccr : Byte) : Res8 :=
  let r := BitVec.ofNat 8 (v.toNat / 2)
  ⟨r, shiftFlags8 r (v.getLsbD 0) ccr⟩

/-- Rotate left through carry (42 R191 to R193): the old C into bit 0. -/
def rol8 (v ccr : Byte) : Res8 :=
  let r := BitVec.ofNat 8 (v.toNat * 2 + (ccrBit ccr .c).toNat)
  ⟨r, shiftFlags8 r (v.getLsbD 7) ccr⟩

/-- Rotate right through carry (42 R194 to R196): the old C into bit 7. -/
def ror8 (v ccr : Byte) : Res8 :=
  let r := BitVec.ofNat 8 (v.toNat / 2 + (ccrBit ccr .c).toNat * 0x80)
  ⟨r, shiftFlags8 r (v.getLsbD 0) ccr⟩

/-- Shift D left (42 R197). -/
def asl16 (d : Word) (ccr : Byte) : Res16 :=
  let r := BitVec.ofNat 16 (d.toNat * 2)
  ⟨r, shiftFlags16 r (d.getLsbD 15) ccr⟩

/-- Shift D right (42 R198). -/
def lsr16 (d : Word) (ccr : Byte) : Res16 :=
  let r := BitVec.ofNat 16 (d.toNat / 2)
  ⟨r, shiftFlags16 r (d.getLsbD 0) ccr⟩

/-- The correction byte of the decimal adjust and its carry: the default `DAA_FN` (41 R159). Log entry 8. -/
def daaCorrection (a : Byte) (c h : Bool) : Byte × Bool :=
  let lo := a.toNat % 16
  let hi := a.toNat / 16
  let low : Byte := if h || decide (lo > 9) then 0x06 else 0x00
  if c || decide (hi > 9) || (decide (hi ≥ 9) && decide (lo > 9)) then (low ||| 0x60, true) else (low, c)

/-- Decimal adjust (41 R159): N, Z and C computed, V the drawn bit. -/
def daa8 (a : Byte) (drawn : Bool) (ccr : Byte) : Res8 :=
  let k := daaCorrection a (ccrBit ccr .c) (ccrBit ccr .h)
  let r := a + k.1
  ⟨r, putFlag .v drawn (putFlag .c k.2 (nz8 r ccr))⟩

/-- The flags of brset and brclr for each value of `BRBIT_FLAGS` (43 R201, R202): t is the masked byte. -/
def bitBranchFlags (mode : BrbitFlags) (t ccr : Byte) : Byte :=
  match mode with
  | .doc => logic8 t ccr
  | .unchanged => ccr

end Sys2Proof.Machine
end

