-- ==== Sys2Proof/Machine/Memory.lean ====
section
/-! DEFINITION. The 65536-byte memory (20_memory.md R47) as a list of (address, byte) pairs in one canonical form: addresses
strictly rising and below 65536, no byte equal to what an unlisted address reads as. -/

namespace Sys2Proof.Machine

/-- The memory: the listed bytes; every other address reads as `unlistedByte`. -/
abbrev Memory := List Host.Cell

/-- What an address nothing has written reads as: `INITIAL_MEMORY` (00_scope.md R7, OPEN) fixed at 0x00.
DESIGN CHOICE, log entry 4. -/
def unlistedByte : Byte := 0x00

/-- The byte at an address (20_memory.md R49). -/
def Memory.read : Memory → Nat → Byte
  | [], _ => unlistedByte
  | (k, v) :: rest, a => if k = a then v else Memory.read rest a

/-- The cells but those at an address. -/
def Memory.erase : Memory → Nat → Memory
  | [], _ => []
  | (k, v) :: rest, a => if k = a then Memory.erase rest a else (k, v) :: Memory.erase rest a

/-- The cells with one more, before the first higher address. -/
def Memory.insert : Memory → Nat → Byte → Memory
  | [], a, v => [(a, v)]
  | (k, w) :: rest, a, v => if a < k then (a, v) :: (k, w) :: rest else (k, w) :: Memory.insert rest a v

/-- Store a byte (20_memory.md R50), keeping the canonical form. -/
def Memory.write (m : Memory) (a : Nat) (v : Byte) : Memory :=
  if v = unlistedByte then m.erase a else (m.erase a).insert a v

/-- Every address of the cells is above `lo`, they rise strictly and stay below 65536, and no byte is the unlisted one. -/
def Memory.wfAbove : Option Nat → Memory → Bool
  | _, [] => true
  | lo, (k, v) :: rest =>
    (match lo with
      | none => true
      | some l => decide (l < k)) && decide (k < 65536) && decide (v ≠ unlistedByte) && Memory.wfAbove (some k) rest

/-- The canonical form. -/
def Memory.wf (m : Memory) : Bool := Memory.wfAbove none m

end Sys2Proof.Machine
end

