-- ==== Sys2Proof/Machine/State.lean ====
section
/-! DEFINITION. The state of the machine as plain data (10_state.md R15, R16), the bus's own state (20_memory.md section 5,
60_exceptions.md section 8), the reasons a step can stop, and the state after reset. -/

namespace Sys2Proof.Machine

open Sys2Proof

/-- `status` (10_state.md R44). -/
inductive Status where
  /-- Steps execute instructions. -/
  | running
  /-- Entered by wai; left only by reset (60_exceptions.md R256). -/
  | waiting
  /-- Entered by stop with S = 0; left only by reset (60_exceptions.md R256). -/
  | stopped
  deriving DecidableEq, Repr

/-- The kinds of bus transaction (20_memory.md R65). -/
inductive BusKind where
  | fetch | read | write
  deriving DecidableEq, Repr

/-- An observer in the trap registry (20_memory.md R63). Observers change neither registers nor memory (92 D4). -/
inductive Observer where
  /-- The breakpoint handler (60_exceptions.md R252). -/
  | breakpoints
  /-- Any other observer the host registers; the core does nothing for it but call it. -/
  | other (id : Nat)
  deriving DecidableEq, Repr

/-- An entry of the trap registry (20_memory.md R63). -/
structure TrapEntry where
  addr : Word
  observer : Observer
  deriving DecidableEq, Repr

/-- What a step does that the outside can see (20_memory.md R64, R65; 30_encoding.md R87). -/
inductive Event where
  /-- A bus transaction (kind, address, data, instr_addr) (20_memory.md R65). -/
  | bus (kind : BusKind) (addr : Word) (data : Byte) (instrAddr : Word)
  /-- `readTrap(addr, instrAddr)` or `writeTrap(addr, instrAddr)` called on an observer (20_memory.md R64). -/
  | trap (kind : BusKind) (observer : Observer) (addr : Word) (instrAddr : Word)
  /-- The diagnostic of an unmapped opcode: page, byte, the byte's address, last_pc (30_encoding.md R87). -/
  | invalidOpcode (page : Page) (op : Byte) (opAddr : Word) (instrAddr : Word)
  deriving DecidableEq, Repr

/-- The bus's observers and what they have been told. No instruction reads it. -/
structure Bus where
  /-- The trap registry, in registration order (20_memory.md R63). -/
  traps : List TrapEntry
  /-- bpx, the execute set (60_exceptions.md R252). -/
  execBreaks : List Word
  /-- bpr, the read set. -/
  readBreaks : List Word
  /-- bpw, the write set. -/
  writeBreaks : List Word
  /-- The one-shot latch (60_exceptions.md R252, R253). -/
  pending : Option Word
  /-- The events of the last step, oldest first (20_memory.md R65). Log entry 10. -/
  events : List Event
  deriving DecidableEq, Repr

/-- The machine (10_state.md R15). D is `a:b` (10_state.md R17). -/
structure State where
  /-- Accumulator A, D's high byte. -/
  a : Byte
  /-- Accumulator B, D's low byte. -/
  b : Byte
  /-- Index register X. -/
  x : Word
  /-- Index register Y. -/
  y : Word
  /-- The stack pointer: the next free byte (10_state.md R19). -/
  sp : Word
  /-- The program counter (10_state.md R21). -/
  pc : Word
  /-- The condition code register (10_state.md R23). -/
  ccr : Byte
  /-- The cycle counter (10_state.md R43). -/
  cycles : BitVec 64
  /-- `last_pc`: the address of the instruction being executed (10_state.md R22). -/
  lastPc : Word
  /-- Running, Waiting or Stopped (10_state.md R44). -/
  status : Status
  /-- The memory (20_memory.md R47). -/
  mem : Memory
  /-- The bus's observers and the step's events. -/
  bus : Bus
  /-- The model's own: how many free values have been drawn. Log entry 7. -/
  freeCount : Nat
  deriving DecidableEq, Repr

/-- Why the machine stops with a fault: never ("a model of this core has no fault state and no stuck state",
60_exceptions.md R238), so there is no constructor. Safe: no claim rests on a fault. -/
inductive Fault : Type
  deriving DecidableEq, Repr

/-- Why the model has no meaning to give. -/
inductive Refusal where
  /-- The instruction has no meaning yet. Raised by `exec`'s rejected arms only; there is none now. Safe. -/
  | notModelled (mnemonic : String)
  deriving DecidableEq, Repr

/-- What a step or a meaning answers. -/
abbrev Result := Host.Outcome State Fault Refusal

/-- The machine right after reset (10_state.md R16, 70_reset_and_hazards.md R259): CCR 0x90, cycles 0, Running as the spec
says. A, B, X, Y, SP (log entry 1), PC (log entry 2), last_pc (log entry 3), the memory's unlisted byte (log entry 4), the
bus (log entries 10, 11) and freeCount (log entry 7) are DESIGN CHOICE. -/
def State.reset : State where
  a := 0x00
  b := 0x00
  x := 0x0000
  y := 0x0000
  sp := 0x0000
  pc := 0x0000
  ccr := 0x90
  cycles := 0
  lastPc := 0x0000
  status := .running
  mem := []
  bus :=
    { traps := []
      execBreaks := []
      readBreaks := []
      writeBreaks := []
      pending := none
      events := [] }
  freeCount := 0

end Sys2Proof.Machine
end

