-- ==== Sys2Proof/Machine/Ops.lean ====
section
/-! DEFINITION. The named operations over registers, the bus, memory and the stack (10_state.md, 20_memory.md R49 to R55, R63
to R65), the trap entry of swi and the trap return (60_exceptions.md R241, R244). -/

namespace Sys2Proof.Machine

open Sys2Proof

/-! ## Registers -/

def State.setA (v : Byte) (s : State) : State := { s with a := v }
def State.setB (v : Byte) (s : State) : State := { s with b := v }
def State.setX (v : Word) (s : State) : State := { s with x := v }
def State.setY (v : Word) (s : State) : State := { s with y := v }
def State.setSp (v : Word) (s : State) : State := { s with sp := v }
def State.setPc (v : Word) (s : State) : State := { s with pc := v }
def State.setCcr (v : Byte) (s : State) : State := { s with ccr := v }
def State.setCycles (v : BitVec 64) (s : State) : State := { s with cycles := v }
def State.setLastPc (v : Word) (s : State) : State := { s with lastPc := v }
def State.setStatus (v : Status) (s : State) : State := { s with status := v }
def State.setMem (v : Memory) (s : State) : State := { s with mem := v }
def State.setBus (v : Bus) (s : State) : State := { s with bus := v }
def State.setFreeCount (v : Nat) (s : State) : State := { s with freeCount := v }

/-- The accumulator D, `A:B` (10_state.md R17). -/
def State.d (s : State) : Word := joinBytes s.a s.b

/-- A write of D writes A with bits 15..8 and B with bits 7..0 (10_state.md R17, 00_scope.md R10). -/
def State.setD (v : Word) (s : State) : State := (s.setA (hiByte v)).setB (loByte v)

/-- A single flag (10_state.md R23). -/
def State.flag (f : Flag) (s : State) : Bool := ccrBit s.ccr f

/-- `F <- b` on the CCR (10_state.md R25). -/
def State.putFlag (f : Flag) (b : Bool) (s : State) : State := s.setCcr (Machine.putFlag f b s.ccr)

/-! ## The bus and its observers -/

/-- What only the host changes: the trap registry and the breakpoint sets (20_memory.md R63, 60_exceptions.md R252). -/
def Bus.config (u : Bus) : List TrapEntry × List Word × List Word × List Word :=
  (u.traps, u.execBreaks, u.readBreaks, u.writeBreaks)

/-- Append an event. -/
def Bus.emit (e : Event) (u : Bus) : Bus := { u with events := u.events ++ [e] }

/-- The breakpoint handler is told of an access: it arms its latch with the instruction's address when the address is in the
set of that kind, and never halts (60_exceptions.md R253). -/
def Bus.arm (kind : BusKind) (addr instrAddr : Word) (u : Bus) : Bus :=
  match kind with
  | .read => if u.readBreaks.contains addr then { u with pending := some instrAddr } else u
  | .write => if u.writeBreaks.contains addr then { u with pending := some instrAddr } else u
  | .fetch => u

/-- Call one registered observer, if it is registered for the address (20_memory.md R64). -/
def Bus.notifyOne (kind : BusKind) (addr instrAddr : Word) (u : Bus) (e : TrapEntry) : Bus :=
  if e.addr = addr then
    let u := u.emit (.trap kind e.observer addr instrAddr)
    match e.observer with
    | .breakpoints => u.arm kind addr instrAddr
    | .other _ => u
  else u

/-- A trapped access: the transaction, then the observers in registration order (20_memory.md R64, R65). -/
def Bus.access (kind : BusKind) (addr : Word) (data : Byte) (instrAddr : Word) (u : Bus) : Bus :=
  u.traps.foldl (Bus.notifyOne kind addr instrAddr) (u.emit (.bus kind addr data instrAddr))

/-- A trapped access on the state's bus; `instr_addr` is last_pc (20_memory.md R65). -/
def State.access (kind : BusKind) (addr : Word) (data : Byte) (s : State) : State :=
  s.setBus (s.bus.access kind addr data s.lastPc)

/-- Hand the host an event that is no bus access (30_encoding.md R87). -/
def State.emit (e : Event) (s : State) : State := s.setBus (s.bus.emit e)

/-! ## Memory -/

/-- The byte at an address, no observer told (20_memory.md R52). -/
def State.byteAt (addr : Word) (s : State) : Byte := s.mem.read addr.toNat

/-- The big-endian word at an address and the next, no observer told (20_memory.md R53). -/
def State.wordAt (addr : Word) (s : State) : Word := joinBytes (s.byteAt addr) (s.byteAt (addr + 1))

/-- Store a byte, no observer told (20_memory.md R52). -/
def State.storeSilent (addr : Word) (v : Byte) (s : State) : State := s.setMem (s.mem.write addr.toNat v)

/-- `MemRead(addr, 1)` (20_memory.md R49). -/
def memRead8 (addr : Word) (s : State) : Byte × State :=
  (s.byteAt addr, s.access .read addr (s.byteAt addr))

/-- `MemWrite(addr, 1, v)` (20_memory.md R50). -/
def memWrite8 (addr : Word) (v : Byte) (s : State) : State :=
  (s.storeSilent addr v).access .write addr v

/-- `MemRead(addr, 2)` (20_memory.md R53): the high byte first. -/
def memRead16 (addr : Word) (s : State) : Word × State :=
  let hi := memRead8 addr s
  let lo := memRead8 (addr + 1) hi.2
  (joinBytes hi.1 lo.1, lo.2)

/-- `MemWrite(addr, 2, v)` (20_memory.md R53): the high byte first. -/
def memWrite16 (addr v : Word) (s : State) : State :=
  memWrite8 (addr + 1) (loByte v) (memWrite8 addr (hiByte v) s)

/-! ## The stack (20_memory.md R55) -/

/-- `Push8(v)`: write at SP, then decrement. -/
def push8 (v : Byte) (s : State) : State :=
  let t := memWrite8 s.sp v s
  t.setSp (t.sp - 1)

/-- `Pull8()`: increment SP, then read. -/
def pull8 (s : State) : Byte × State :=
  let t := s.setSp (s.sp + 1)
  memRead8 t.sp t

/-- `Push16(v)`: the low byte first. -/
def push16 (v : Word) (s : State) : State := push8 (hiByte v) (push8 (loByte v) s)

/-- `Pull16()`: the high byte first. -/
def pull16 (s : State) : Word × State :=
  let hi := pull8 s
  let lo := pull8 hi.2
  (joinBytes hi.1 lo.1, lo.2)

/-- `A <- Pull8()`. -/
def pullA (s : State) : State :=
  let v := pull8 s
  v.2.setA v.1

/-- `B <- Pull8()`. -/
def pullB (s : State) : State :=
  let v := pull8 s
  v.2.setB v.1

/-- `X <- Pull16()`. -/
def pullX (s : State) : State :=
  let v := pull16 s
  v.2.setX v.1

/-- `Y <- Pull16()`. -/
def pullY (s : State) : State :=
  let v := pull16 s
  v.2.setY v.1

/-- `PC <- Pull16()`. -/
def pullPc (s : State) : State :=
  let v := pull16 s
  v.2.setPc v.1

/-! ## Trap entry and return -/

/-- Stack the frame of swi and wai: PC, Y, X, A, B, CCR (60_exceptions.md R242). -/
def pushFrame (s : State) : State :=
  push8 s.ccr (push8 s.b (push8 s.a (push16 s.x (push16 s.y (push16 s.pc s)))))

/-- The address of the swi vector (60_exceptions.md R243). -/
def swiVector : Word := 0xFFF6

/-- PC becomes the word at a vector (60_exceptions.md R243). -/
def jumpThrough (vector : Word) (s : State) : State :=
  let v := memRead16 vector s
  v.2.setPc v.1

/-- Take the software-interrupt trap (60_exceptions.md R241): the frame, with the CCR as it was before; then I is set and
control goes to the address the vector holds. -/
def takeTrap (s : State) : State := jumpThrough swiVector ((pushFrame s).putFlag .i true)

/-- `SetCCR(Pull8())` (60_exceptions.md R244). -/
def pullCcr (s : State) : State :=
  let v := pull8 s
  v.2.setCcr (setCcrByte v.1 v.2.ccr)

/-- Return from a trap (60_exceptions.md R244): pull CCR (through SetCCR), B, A, X, Y, PC. -/
def returnFromTrap (s : State) : State := pullPc (pullY (pullX (pullA (pullB (pullCcr s)))))

/-! ## Branches -/

/-- The target of a signed offset from the next instruction's address (30_encoding.md R82). -/
def branchTarget (rr : Byte) (s : State) : Word := s.pc + sext16 rr

/-- Branch if the condition holds (44_control_transfer.md R203 to R218): PC already addresses the next instruction. -/
def branchIf (taken : Bool) (rr : Byte) (s : State) : State :=
  if taken then s.setPc (branchTarget rr s) else s

/-! ## Free values -/

/-- Draw a bit the spec leaves open (41_arithmetic.md R159). -/
def drawBit (s : State) : Bool × State := (Config.freeBit s.freeCount, s.setFreeCount (s.freeCount + 1))

/-- `draw_16()` (00_scope.md R12). -/
def drawWord (s : State) : Word × State := (Config.freeWord s.freeCount, s.setFreeCount (s.freeCount + 1))

end Sys2Proof.Machine
end

