-- ==== Sys2Proof/Syntax.lean ====
section
/-! DEFINITION. The instructions as data: operand forms (30_encoding.md R72 to R83) and one constructor per mnemonic of
spec/opcode_table.json, its addressing modes being its operand's forms. Aliases (R96) have their instruction's constructor. -/

namespace Sys2Proof

/-- A memory operand: DIR, EXT, INDX, INDY (30_encoding.md R78 to R81). -/
inductive Ea where
  /-- DIR: the byte dd. -/
  | dir (dd : Byte)
  /-- EXT: the address hh:ll. -/
  | ext (addr : Word)
  /-- INDX: the unsigned offset ff from X. -/
  | indx (ff : Byte)
  /-- INDY: the unsigned offset ff from Y. -/
  | indy (ff : Byte)
  deriving DecidableEq, Repr

/-- A memory operand of an instruction that has no DIR form: EXT, INDX, INDY. -/
inductive EaNoDir where
  | ext (addr : Word)
  | indx (ff : Byte)
  | indy (ff : Byte)
  deriving DecidableEq, Repr

/-- A memory operand of the bit operations (formats F-BIT and F-BRB): DIR, INDX, INDY. -/
inductive EaNoExt where
  | dir (dd : Byte)
  | indx (ff : Byte)
  | indy (ff : Byte)
  deriving DecidableEq, Repr

/-- An 8-bit operand: IMM or memory (30_encoding.md R76, R83). -/
inductive Opnd8 where
  | imm (ii : Byte)
  | mem (m : Ea)
  deriving DecidableEq, Repr

/-- A 16-bit operand: IMM or memory (30_encoding.md R77, R83). -/
inductive Opnd16 where
  | imm (jjkk : Word)
  | mem (m : Ea)
  deriving DecidableEq, Repr

/-- The three prefix bytes (30_encoding.md R84). -/
inductive PrefixByte where
  | x18 | x1A | xCD
  deriving DecidableEq, Repr

/-- An instruction. -/
inductive Instr where
  /-- Clear accumulator A (40 R98). -/
  | clra
  /-- Clear accumulator B (40 R99). -/
  | clrb
  /-- Clear memory byte (40 R100). -/
  | clr (m : EaNoDir)
  /-- Load accumulator A (40 R101). -/
  | ldaa (o : Opnd8)
  /-- Load accumulator B (40 R102). -/
  | ldab (o : Opnd8)
  /-- Load 16-bit register D (40 R103). -/
  | ldd (o : Opnd16)
  /-- Load 16-bit register SP (40 R104). -/
  | lds (o : Opnd16)
  /-- Load 16-bit register X (40 R105). -/
  | ldx (o : Opnd16)
  /-- Load 16-bit register Y (40 R106). -/
  | ldy (o : Opnd16)
  /-- Store accumulator A (40 R107). -/
  | staa (m : Ea)
  /-- Store accumulator B (40 R108). -/
  | stab (m : Ea)
  /-- Store 16-bit register D (40 R109). -/
  | std (m : Ea)
  /-- Store 16-bit register SP (40 R110). -/
  | sts (m : Ea)
  /-- Store 16-bit register X (40 R111). -/
  | stx (m : Ea)
  /-- Store 16-bit register Y (40 R112). -/
  | sty (m : Ea)
  /-- Push accumulator A (40 R113). -/
  | psha
  /-- Push accumulator B (40 R114). -/
  | pshb
  /-- Push index register X (40 R115). -/
  | pshx
  /-- Push index register Y (40 R116). -/
  | pshy
  /-- Pull accumulator A (40 R117). -/
  | pula
  /-- Pull accumulator B (40 R118). -/
  | pulb
  /-- Pull index register X (40 R119). -/
  | pulx
  /-- Pull index register Y (40 R120). -/
  | puly
  /-- Transfer A to B (40 R121). -/
  | tab
  /-- Transfer B to A (40 R122). -/
  | tba
  /-- Transfer SP to X (40 R123). -/
  | tsx
  /-- Transfer SP to Y (40 R124). -/
  | tsy
  /-- Transfer X to SP (40 R125). -/
  | txs
  /-- Transfer Y to SP (40 R126). -/
  | tys
  /-- Exchange D and X (40 R127). -/
  | xgdx
  /-- Exchange D and Y (40 R128). -/
  | xgdy
  /-- Add B to A (41 R129). -/
  | aba
  /-- Add to accumulator A (41 R130). -/
  | adda (o : Opnd8)
  /-- Add with carry to accumulator A (41 R131). -/
  | adca (o : Opnd8)
  /-- Add to accumulator B (41 R132). -/
  | addb (o : Opnd8)
  /-- Add with carry to accumulator B (41 R133). -/
  | adcb (o : Opnd8)
  /-- Add to D (16-bit) (41 R134). -/
  | addd (o : Opnd16)
  /-- Subtract B from A (41 R135). -/
  | sba
  /-- Subtract from accumulator A (41 R136). -/
  | suba (o : Opnd8)
  /-- Subtract with carry from accumulator A (41 R137). -/
  | sbca (o : Opnd8)
  /-- Subtract from accumulator B (41 R138). -/
  | subb (o : Opnd8)
  /-- Subtract with carry from accumulator B (41 R139). -/
  | sbcb (o : Opnd8)
  /-- Subtract from D (16-bit) (41 R140). -/
  | subd (o : Opnd16)
  /-- Compare A with B (41 R141). -/
  | cba
  /-- Compare accumulator A (41 R142). -/
  | cmpa (o : Opnd8)
  /-- Compare accumulator B (41 R143). -/
  | cmpb (o : Opnd8)
  /-- Compare D (16-bit) (41 R144). -/
  | cpd (o : Opnd16)
  /-- Compare X (16-bit) (41 R145). -/
  | cpx (o : Opnd16)
  /-- Compare Y (16-bit) (41 R146). -/
  | cpy (o : Opnd16)
  /-- Increment accumulator A (41 R147). -/
  | inca
  /-- Increment accumulator B (41 R148). -/
  | incb
  /-- Increment memory byte (41 R149). -/
  | inc (m : EaNoDir)
  /-- Decrement accumulator A (41 R150). -/
  | deca
  /-- Decrement accumulator B (41 R151). -/
  | decb
  /-- Decrement memory byte (41 R152). -/
  | dec (m : EaNoDir)
  /-- Negate accumulator A (two's complement) (41 R153). -/
  | nega
  /-- Negate accumulator B (two's complement) (41 R154). -/
  | negb
  /-- Negate memory byte (41 R155). -/
  | neg (m : EaNoDir)
  /-- Test accumulator A (41 R156). -/
  | tsta
  /-- Test accumulator B (41 R157). -/
  | tstb
  /-- Test memory byte (41 R158). -/
  | tst (m : EaNoDir)
  /-- Decimal adjust A (41 R159). -/
  | daa
  /-- Add B to X (41 R160). -/
  | abx
  /-- Add B to Y (41 R161). -/
  | aby
  /-- Increment X (41 R162). -/
  | inx
  /-- Increment Y (41 R163). -/
  | iny
  /-- Decrement X (41 R164). -/
  | dex
  /-- Decrement Y (41 R165). -/
  | dey
  /-- Increment stack pointer (41 R166). -/
  | ins
  /-- Decrement stack pointer (41 R167). -/
  | des
  /-- Multiply A by B (unsigned) (41 R168). -/
  | mul
  /-- Integer divide D by X (unsigned 16 / 16) (41 R169). -/
  | idiv
  /-- Fractional divide D by X (unsigned 16 / 16, D < X) (41 R170). -/
  | fdiv
  /-- AND accumulator A (42 R171). -/
  | anda (o : Opnd8)
  /-- AND accumulator B (42 R172). -/
  | andb (o : Opnd8)
  /-- Exclusive OR accumulator A (42 R173). -/
  | eora (o : Opnd8)
  /-- Exclusive OR accumulator B (42 R174). -/
  | eorb (o : Opnd8)
  /-- OR accumulator A (42 R175). -/
  | oraa (o : Opnd8)
  /-- OR accumulator B (42 R176). -/
  | orab (o : Opnd8)
  /-- Bit test accumulator A (42 R177). -/
  | bita (o : Opnd8)
  /-- Bit test accumulator B (42 R178). -/
  | bitb (o : Opnd8)
  /-- Complement accumulator A (one's complement) (42 R179). -/
  | coma
  /-- Complement accumulator B (one's complement) (42 R180). -/
  | comb
  /-- Complement memory byte (42 R181). -/
  | com (m : EaNoDir)
  /-- Arithmetic shift left accumulator A (42 R182). -/
  | asla
  /-- Arithmetic shift left accumulator B (42 R183). -/
  | aslb
  /-- Arithmetic shift left memory byte (42 R184). -/
  | asl (m : EaNoDir)
  /-- Arithmetic shift right accumulator A (42 R185). -/
  | asra
  /-- Arithmetic shift right accumulator B (42 R186). -/
  | asrb
  /-- Arithmetic shift right memory byte (42 R187). -/
  | asr (m : EaNoDir)
  /-- Logical shift right accumulator A (42 R188). -/
  | lsra
  /-- Logical shift right accumulator B (42 R189). -/
  | lsrb
  /-- Logical shift right memory byte (42 R190). -/
  | lsr (m : EaNoDir)
  /-- Rotate left through carry accumulator A (42 R191). -/
  | rola
  /-- Rotate left through carry accumulator B (42 R192). -/
  | rolb
  /-- Rotate left through carry memory byte (42 R193). -/
  | rol (m : EaNoDir)
  /-- Rotate right through carry accumulator A (42 R194). -/
  | rora
  /-- Rotate right through carry accumulator B (42 R195). -/
  | rorb
  /-- Rotate right through carry memory byte (42 R196). -/
  | ror (m : EaNoDir)
  /-- Arithmetic shift left D (16-bit) (42 R197). -/
  | asld
  /-- Logical shift right D (16-bit) (42 R198). -/
  | lsrd
  /-- Set bits in memory (43 R199). -/
  | bset (m : EaNoExt) (mask : Byte)
  /-- Clear bits in memory (43 R200). -/
  | bclr (m : EaNoExt) (mask : Byte)
  /-- Branch if all masked bits set (43 R201). -/
  | brset (m : EaNoExt) (mask rr : Byte)
  /-- Branch if all masked bits clear (43 R202). -/
  | brclr (m : EaNoExt) (mask rr : Byte)
  /-- Branch always (44 R203). -/
  | bra (rr : Byte)
  /-- Branch never (44 R204). -/
  | brn (rr : Byte)
  /-- Branch if higher (unsigned >) (44 R205). -/
  | bhi (rr : Byte)
  /-- Branch if lower or same (unsigned <=) (44 R206). -/
  | bls (rr : Byte)
  /-- Branch if carry clear (bhs: higher or same, unsigned >=) (44 R207). -/
  | bcc (rr : Byte)
  /-- Branch if carry set (blo: lower, unsigned <) (44 R208). -/
  | bcs (rr : Byte)
  /-- Branch if not equal (44 R209). -/
  | bne (rr : Byte)
  /-- Branch if equal (44 R210). -/
  | beq (rr : Byte)
  /-- Branch if overflow clear (44 R211). -/
  | bvc (rr : Byte)
  /-- Branch if overflow set (44 R212). -/
  | bvs (rr : Byte)
  /-- Branch if plus (44 R213). -/
  | bpl (rr : Byte)
  /-- Branch if minus (44 R214). -/
  | bmi (rr : Byte)
  /-- Branch if greater or equal (signed) (44 R215). -/
  | bge (rr : Byte)
  /-- Branch if less than (signed) (44 R216). -/
  | blt (rr : Byte)
  /-- Branch if greater than (signed) (44 R217). -/
  | bgt (rr : Byte)
  /-- Branch if less or equal (signed) (44 R218). -/
  | ble (rr : Byte)
  /-- Branch to subroutine (44 R219). -/
  | bsr (rr : Byte)
  /-- Jump (44 R220). -/
  | jmp (m : EaNoDir)
  /-- Jump to subroutine (44 R221). -/
  | jsr (m : Ea)
  /-- Return from subroutine (44 R222). -/
  | rts
  /-- Clear carry (45 R224). -/
  | clc
  /-- Set carry (45 R225). -/
  | sec
  /-- Clear overflow (45 R226). -/
  | clv
  /-- Set overflow (45 R227). -/
  | sev
  /-- Clear interrupt mask (45 R228). -/
  | cli
  /-- Set interrupt mask (45 R229). -/
  | sei
  /-- Transfer A to CCR (45 R230). -/
  | tap
  /-- Transfer CCR to A (45 R231). -/
  | tpa
  /-- No operation (45 R232). -/
  | nop
  /-- Software interrupt (45 R233). -/
  | swi
  /-- Return from interrupt (45 R234). -/
  | rti
  /-- Wait for interrupt (45 R235). -/
  | wai
  /-- Stop clocks (45 R236). -/
  | stop
  /-- An unmapped opcode of a page, the table's rows "(invalid)" (30 R87). -/
  | invalid (page : Page) (op : Byte)
  /-- A prefix byte by itself, the table's rows "(prefix)": "never executed alone" (30 R84), so never decoded. Log entry 12. -/
  | prefixByte (p : PrefixByte)
  deriving DecidableEq, Repr

end Sys2Proof
end

