-- ==== Sys2Proof/Machine/Operands.lean ====
section
/-! DEFINITION. Operand forms (30_encoding.md R74 to R83) and the shapes of instruction the families share: an accumulator
with an operand, an accumulator or a memory byte in place, a load, a store. The CCR computation is the caller's. -/

namespace Sys2Proof

/-- The operand as a general memory operand. -/
def EaNoDir.toEa : EaNoDir → Ea
  | .ext addr => .ext addr
  | .indx ff => .indx ff
  | .indy ff => .indy ff

/-- The operand as a general memory operand. -/
def EaNoExt.toEa : EaNoExt → Ea
  | .dir dd => .dir dd
  | .indx ff => .indx ff
  | .indy ff => .indy ff

end Sys2Proof

namespace Sys2Proof.Machine

open Sys2Proof

/-- `EA(mode)` (30_encoding.md R78 to R81, R83). -/
def ea (m : Ea) (s : State) : Word :=
  match m with
  | .dir dd => zext16 dd
  | .ext addr => addr
  | .indx ff => s.x + zext16 ff
  | .indy ff => s.y + zext16 ff

/-- `Read8(mode)` (30_encoding.md R83). -/
def read8 (o : Opnd8) (s : State) : Byte × State :=
  match o with
  | .imm ii => (ii, s)
  | .mem m => memRead8 (ea m s) s

/-- `Read16(mode)` (30_encoding.md R83). -/
def read16 (o : Opnd16) (s : State) : Word × State :=
  match o with
  | .imm jjkk => (jjkk, s)
  | .mem m => memRead16 (ea m s) s

/-- `A <- f(A, m)` with the CCR f gives. -/
def updateA (f : Byte → Byte → Byte → Res8) (o : Opnd8) (s : State) : State :=
  let m := read8 o s
  let r := f m.2.a m.1 m.2.ccr
  (m.2.setA r.value).setCcr r.ccr

/-- `B <- f(B, m)` with the CCR f gives. -/
def updateB (f : Byte → Byte → Byte → Res8) (o : Opnd8) (s : State) : State :=
  let m := read8 o s
  let r := f m.2.b m.1 m.2.ccr
  (m.2.setB r.value).setCcr r.ccr

/-- `D <- f(D, m)` with the CCR f gives. -/
def updateD (f : Word → Word → Byte → Res16) (o : Opnd16) (s : State) : State :=
  let m := read16 o s
  let r := f m.2.d m.1 m.2.ccr
  (m.2.setD r.value).setCcr r.ccr

/-- Only the flags of `f(reg, m)`: a compare or a bit test of an 8-bit register value. -/
def compare8 (f : Byte → Byte → Byte → Byte) (reg : Byte) (o : Opnd8) (s : State) : State :=
  let m := read8 o s
  m.2.setCcr (f reg m.1 m.2.ccr)

/-- Only the flags of `Sub16(reg, m)`. -/
def compare16 (reg : Word) (o : Opnd16) (s : State) : State :=
  let m := read16 o s
  m.2.setCcr (sub16 reg m.1 m.2.ccr).ccr

/-- `A <- f(A)` with the CCR f gives. -/
def modifyA (f : Byte → Byte → Res8) (s : State) : State :=
  let r := f s.a s.ccr
  (s.setA r.value).setCcr r.ccr

/-- `B <- f(B)` with the CCR f gives. -/
def modifyB (f : Byte → Byte → Res8) (s : State) : State :=
  let r := f s.b s.ccr
  (s.setB r.value).setCcr r.ccr

/-- Read the byte at an address, set the CCR f gives, write f's result there: one read, then one write (30_encoding.md R83). -/
def modifyMem (f : Byte → Byte → Res8) (addr : Word) (s : State) : State :=
  let v := memRead8 addr s
  let r := f v.1 v.2.ccr
  memWrite8 addr r.value (v.2.setCcr r.ccr)

/-- Store a byte with `Logic8` of it (40 R107, R108). -/
def store8 (v : Byte) (m : Ea) (s : State) : State :=
  memWrite8 (ea m s) v (s.setCcr (logic8 v s.ccr))

/-- Store a word with `Logic16` of it (40 R109 to R112). -/
def store16 (v : Word) (m : Ea) (s : State) : State :=
  memWrite16 (ea m s) v (s.setCcr (logic16 v s.ccr))

end Sys2Proof.Machine
end

