-- ==== Sys2Proof/Machine/Arithmetic.lean ====
section
/-! DEFINITION. Arithmetic, compares, increments, negation, tests, decimal adjust, multiply and divide (41_arithmetic.md).
Each meaning begins with PC at the next instruction (10_state.md R21). -/

namespace Sys2Proof.Machine

open Sys2Proof

/-- The fallback of a division by zero (41 R169, R170): quotient 0 to X, D (the remainder) and V unchanged. -/
def divideByZero (s : State) : State := ((s.setX 0x0000).putFlag .z true).putFlag .c (s.d != 0)

/-- The flags of a division with a quotient q (41 R169, R170): Z from q, V as given, C = 0. -/
def divideFlags (q : Word) (v : Bool) (s : State) : State :=
  ((s.putFlag .z (q == 0)).putFlag .v v).putFlag .c false

/-- idiv with X not 0 (41 R169): quotient to X, remainder to D. -/
def divideInteger (s : State) : State :=
  let q := BitVec.ofNat 16 (s.d.toNat / s.x.toNat)
  divideFlags q false ((s.setX q).setD (BitVec.ofNat 16 (s.d.toNat % s.x.toNat)))

/-- fdiv with D below X (41 R170): the quotient is the binary fraction D/X. -/
def divideFraction (s : State) : State :=
  let q := BitVec.ofNat 16 (s.d.toNat * 65536 / s.x.toNat)
  divideFlags q false ((s.setX q).setD (BitVec.ofNat 16 (s.d.toNat * 65536 % s.x.toNat)))

/-- fdiv with X not 0 and not above D (41 R170, `FDIV_OVERFLOW`): quotient and remainder are drawn. Log entry 7. -/
def divideOverflow (s : State) : State :=
  let q := drawWord s
  let r := drawWord q.2
  divideFlags q.1 true ((r.2.setX q.1).setD r.1)

/-- `aba`: Add B to A (41 R129). -/
def execAba (s : State) : Result :=
  let r := add8 s.a s.b false s.ccr
  .next ((s.setA r.value).setCcr r.ccr)

/-- `adda`: Add to accumulator A (41 R130). -/
def execAdda (o : Opnd8) (s : State) : Result := .next (updateA (fun r m c => add8 r m false c) o s)

/-- `adca`: Add with carry to accumulator A (41 R131). -/
def execAdca (o : Opnd8) (s : State) : Result := .next (updateA (fun r m c => add8 r m (ccrBit c .c) c) o s)

/-- `addb`: Add to accumulator B (41 R132). -/
def execAddb (o : Opnd8) (s : State) : Result := .next (updateB (fun r m c => add8 r m false c) o s)

/-- `adcb`: Add with carry to accumulator B (41 R133). -/
def execAdcb (o : Opnd8) (s : State) : Result := .next (updateB (fun r m c => add8 r m (ccrBit c .c) c) o s)

/-- `addd`: Add to D (16-bit) (41 R134). -/
def execAddd (o : Opnd16) (s : State) : Result := .next (updateD add16 o s)

/-- `sba`: Subtract B from A (41 R135). -/
def execSba (s : State) : Result :=
  let r := sub8 s.a s.b false s.ccr
  .next ((s.setA r.value).setCcr r.ccr)

/-- `suba`: Subtract from accumulator A (41 R136). -/
def execSuba (o : Opnd8) (s : State) : Result := .next (updateA (fun r m c => sub8 r m false c) o s)

/-- `sbca`: Subtract with carry from accumulator A (41 R137). -/
def execSbca (o : Opnd8) (s : State) : Result := .next (updateA (fun r m c => sub8 r m (ccrBit c .c) c) o s)

/-- `subb`: Subtract from accumulator B (41 R138). -/
def execSubb (o : Opnd8) (s : State) : Result := .next (updateB (fun r m c => sub8 r m false c) o s)

/-- `sbcb`: Subtract with carry from accumulator B (41 R139). -/
def execSbcb (o : Opnd8) (s : State) : Result := .next (updateB (fun r m c => sub8 r m (ccrBit c .c) c) o s)

/-- `subd`: Subtract from D (16-bit) (41 R140). -/
def execSubd (o : Opnd16) (s : State) : Result := .next (updateD sub16 o s)

/-- `cba`: Compare A with B (41 R141). -/
def execCba (s : State) : Result := .next (s.setCcr (sub8 s.a s.b false s.ccr).ccr)

/-- `cmpa`: Compare accumulator A (41 R142). -/
def execCmpa (o : Opnd8) (s : State) : Result := .next (compare8 (fun r m c => (sub8 r m false c).ccr) s.a o s)

/-- `cmpb`: Compare accumulator B (41 R143). -/
def execCmpb (o : Opnd8) (s : State) : Result := .next (compare8 (fun r m c => (sub8 r m false c).ccr) s.b o s)

/-- `cpd`: Compare D (16-bit) (41 R144). -/
def execCpd (o : Opnd16) (s : State) : Result := .next (compare16 s.d o s)

/-- `cpx`: Compare X (16-bit) (41 R145). -/
def execCpx (o : Opnd16) (s : State) : Result := .next (compare16 s.x o s)

/-- `cpy`: Compare Y (16-bit) (41 R146). -/
def execCpy (o : Opnd16) (s : State) : Result := .next (compare16 s.y o s)

/-- `inca`: Increment accumulator A (41 R147). -/
def execInca (s : State) : Result := .next (modifyA inc8 s)

/-- `incb`: Increment accumulator B (41 R148). -/
def execIncb (s : State) : Result := .next (modifyB inc8 s)

/-- `inc`: Increment memory byte (41 R149). -/
def execInc (m : EaNoDir) (s : State) : Result := .next (modifyMem inc8 (ea m.toEa s) s)

/-- `deca`: Decrement accumulator A (41 R150). -/
def execDeca (s : State) : Result := .next (modifyA dec8 s)

/-- `decb`: Decrement accumulator B (41 R151). -/
def execDecb (s : State) : Result := .next (modifyB dec8 s)

/-- `dec`: Decrement memory byte (41 R152). -/
def execDec (m : EaNoDir) (s : State) : Result := .next (modifyMem dec8 (ea m.toEa s) s)

/-- `nega`: Negate accumulator A (two's complement) (41 R153). -/
def execNega (s : State) : Result := .next (modifyA neg8 s)

/-- `negb`: Negate accumulator B (two's complement) (41 R154). -/
def execNegb (s : State) : Result := .next (modifyB neg8 s)

/-- `neg`: Negate memory byte (41 R155). -/
def execNeg (m : EaNoDir) (s : State) : Result := .next (modifyMem neg8 (ea m.toEa s) s)

/-- `tsta`: Test accumulator A (41 R156). -/
def execTsta (s : State) : Result := .next (s.setCcr (tst8 s.a s.ccr))

/-- `tstb`: Test accumulator B (41 R157). -/
def execTstb (s : State) : Result := .next (s.setCcr (tst8 s.b s.ccr))

/-- `tst`: Test memory byte (41 R158). -/
def execTst (m : EaNoDir) (s : State) : Result :=
  let v := memRead8 (ea m.toEa s) s
  .next (v.2.setCcr (tst8 v.1 v.2.ccr))

/-- `daa`: Decimal adjust A (41 R159). -/
def execDaa (s : State) : Result :=
  let v := drawBit s
  let r := daa8 s.a v.1 s.ccr
  .next ((v.2.setA r.value).setCcr r.ccr)

/-- `abx`: Add B to X (41 R160). -/
def execAbx (s : State) : Result := .next (s.setX (s.x + zext16 s.b))

/-- `aby`: Add B to Y (41 R161). -/
def execAby (s : State) : Result := .next (s.setY (s.y + zext16 s.b))

/-- `inx`: Increment X (41 R162). -/
def execInx (s : State) : Result := .next ((s.setX (s.x + 1)).putFlag .z (s.x + 1 == 0))

/-- `iny`: Increment Y (41 R163). -/
def execIny (s : State) : Result := .next ((s.setY (s.y + 1)).putFlag .z (s.y + 1 == 0))

/-- `dex`: Decrement X (41 R164). The rule contradicts itself on 0x0000 - 1 = 0xFFFF: its pseudocode gives Z = 0, its corner-case
sentence Z = 1; the model follows the pseudocode. DEDUCED, log entry 17. -/
def execDex (s : State) : Result := .next ((s.setX (s.x - 1)).putFlag .z (s.x - 1 == 0))

/-- `dey`: Decrement Y (41 R165). The rule contradicts itself on 0x0000 - 1 = 0xFFFF: its pseudocode gives Z = 0, its corner-case
sentence Z = 1; the model follows the pseudocode. DEDUCED, log entry 17. -/
def execDey (s : State) : Result := .next ((s.setY (s.y - 1)).putFlag .z (s.y - 1 == 0))

/-- `ins`: Increment stack pointer (41 R166). -/
def execIns (s : State) : Result := .next (s.setSp (s.sp + 1))

/-- `des`: Decrement stack pointer (41 R167). -/
def execDes (s : State) : Result := .next (s.setSp (s.sp - 1))

/-- `mul`: Multiply A by B (unsigned) (41 R168). -/
def execMul (s : State) : Result :=
  let p := BitVec.ofNat 16 (s.a.toNat * s.b.toNat)
  .next ((s.setD p).putFlag .c (p.getLsbD 7))

/-- `idiv`: Integer divide D by X (unsigned 16 / 16) (41 R169). -/
def execIdiv (s : State) : Result := .next (if s.x = 0#16 then divideByZero s else divideInteger s)

/-- `fdiv`: Fractional divide D by X (unsigned 16 / 16, D < X) (41 R170). -/
def execFdiv (s : State) : Result :=
  .next (if s.x = 0#16 then divideByZero s else if s.x.toNat ≤ s.d.toNat then divideOverflow s else divideFraction s)

end Sys2Proof.Machine
end

