-- ==== Sys2Proof/Machine/BitManipulation.lean ====
section
/-! DEFINITION. Bit operations and bit branches (43_bit_manipulation.md).
Each meaning begins with PC at the next instruction (10_state.md R21). -/

namespace Sys2Proof.Machine

open Sys2Proof

/-- brset and brclr (43 R201, R202): read the byte at EA, mask it, set the flags `BRBIT_FLAGS` names, branch if the masked
byte passes the test. -/
def bitBranch (test : Byte → Bool) (m : EaNoExt) (mask rr : Byte) (s : State) : State :=
  let v := memRead8 (ea m.toEa s) s
  let t := v.1 &&& mask
  branchIf (test t) rr (v.2.setCcr (bitBranchFlags Config.brbitFlags t v.2.ccr))

/-- `bset`: Set bits in memory (43 R199). -/
def execBset (m : EaNoExt) (mask : Byte) (s : State) : Result :=
  .next (modifyMem (fun v c => ⟨v ||| mask, logic8 (v ||| mask) c⟩) (ea m.toEa s) s)

/-- `bclr`: Clear bits in memory (43 R200). -/
def execBclr (m : EaNoExt) (mask : Byte) (s : State) : Result :=
  .next (modifyMem (fun v c => ⟨v &&& ~~~mask, logic8 (v &&& ~~~mask) c⟩) (ea m.toEa s) s)

/-- `brset`: Branch if all masked bits set (43 R201). -/
def execBrset (m : EaNoExt) (mask rr : Byte) (s : State) : Result :=
  .next (bitBranch (fun t => t == mask) m mask rr s)

/-- `brclr`: Branch if all masked bits clear (43 R202). -/
def execBrclr (m : EaNoExt) (mask rr : Byte) (s : State) : Result :=
  .next (bitBranch (fun t => t == 0x00) m mask rr s)

end Sys2Proof.Machine
end

