-- ==== Sys2Proof/Machine/ControlTransfer.lean ====
section
/-! DEFINITION. Branches, jumps, calls and returns (44_control_transfer.md).
Each meaning begins with PC at the next instruction (10_state.md R21). -/

namespace Sys2Proof.Machine

open Sys2Proof

/-- `bra`: Branch always (44 R203). -/
def execBra (rr : Byte) (s : State) : Result := .next (branchIf true rr s)

/-- `brn`: Branch never (44 R204). -/
def execBrn (rr : Byte) (s : State) : Result := .next (branchIf false rr s)

/-- `bhi`: Branch if higher (unsigned >) (44 R205). -/
def execBhi (rr : Byte) (s : State) : Result := .next (branchIf (!s.flag .c && !s.flag .z) rr s)

/-- `bls`: Branch if lower or same (unsigned <=) (44 R206). -/
def execBls (rr : Byte) (s : State) : Result := .next (branchIf (s.flag .c || s.flag .z) rr s)

/-- `bcc`: Branch if carry clear (bhs: higher or same, unsigned >=) (44 R207). -/
def execBcc (rr : Byte) (s : State) : Result := .next (branchIf (!s.flag .c) rr s)

/-- `bcs`: Branch if carry set (blo: lower, unsigned <) (44 R208). -/
def execBcs (rr : Byte) (s : State) : Result := .next (branchIf (s.flag .c) rr s)

/-- `bne`: Branch if not equal (44 R209). -/
def execBne (rr : Byte) (s : State) : Result := .next (branchIf (!s.flag .z) rr s)

/-- `beq`: Branch if equal (44 R210). -/
def execBeq (rr : Byte) (s : State) : Result := .next (branchIf (s.flag .z) rr s)

/-- `bvc`: Branch if overflow clear (44 R211). -/
def execBvc (rr : Byte) (s : State) : Result := .next (branchIf (!s.flag .v) rr s)

/-- `bvs`: Branch if overflow set (44 R212). -/
def execBvs (rr : Byte) (s : State) : Result := .next (branchIf (s.flag .v) rr s)

/-- `bpl`: Branch if plus (44 R213). -/
def execBpl (rr : Byte) (s : State) : Result := .next (branchIf (!s.flag .n) rr s)

/-- `bmi`: Branch if minus (44 R214). -/
def execBmi (rr : Byte) (s : State) : Result := .next (branchIf (s.flag .n) rr s)

/-- `bge`: Branch if greater or equal (signed) (44 R215). -/
def execBge (rr : Byte) (s : State) : Result := .next (branchIf (!(s.flag .n ^^ s.flag .v)) rr s)

/-- `blt`: Branch if less than (signed) (44 R216). -/
def execBlt (rr : Byte) (s : State) : Result := .next (branchIf (s.flag .n ^^ s.flag .v) rr s)

/-- `bgt`: Branch if greater than (signed) (44 R217). -/
def execBgt (rr : Byte) (s : State) : Result := .next (branchIf (!s.flag .z && !(s.flag .n ^^ s.flag .v)) rr s)

/-- `ble`: Branch if less or equal (signed) (44 R218). -/
def execBle (rr : Byte) (s : State) : Result := .next (branchIf (s.flag .z || (s.flag .n ^^ s.flag .v)) rr s)

/-- `bsr`: Branch to subroutine (44 R219). -/
def execBsr (rr : Byte) (s : State) : Result :=
  let t := push16 s.pc s
  .next (t.setPc (branchTarget rr t))

/-- `jmp`: Jump (44 R220). -/
def execJmp (m : EaNoDir) (s : State) : Result := .next (s.setPc (ea m.toEa s))

/-- `jsr`: Jump to subroutine (44 R221). The rule contradicts itself on the return address of the INDX form: its pseudocode and
Encoding line give the address 2 bytes later, its corner-case sentence 3; the model follows the pseudocode. DEDUCED, log entry
19. -/
def execJsr (m : Ea) (s : State) : Result := .next ((push16 s.pc s).setPc (ea m s))

/-- `rts`: Return from subroutine (44 R222). -/
def execRts (s : State) : Result := .next (pullPc s)

end Sys2Proof.Machine
end

