-- ==== Sys2Proof/Machine/LoadStoreTransfer.lean ====
section
/-! DEFINITION. Loads, stores, transfers and the stack (40_load_store_transfer.md).
Each meaning begins with PC at the next instruction (10_state.md R21). -/

namespace Sys2Proof.Machine

open Sys2Proof

/-- `clra`: Clear accumulator A (40 R98). -/
def execClra (s : State) : Result := .next (modifyA (fun _ c => clr8 c) s)

/-- `clrb`: Clear accumulator B (40 R99). -/
def execClrb (s : State) : Result := .next (modifyB (fun _ c => clr8 c) s)

/-- `clr`: Clear memory byte (40 R100). -/
def execClr (m : EaNoDir) (s : State) : Result :=
  .next (memWrite8 (ea m.toEa s) (clr8 s.ccr).value (s.setCcr (clr8 s.ccr).ccr))

/-- `ldaa`: Load accumulator A (40 R101). -/
def execLdaa (o : Opnd8) (s : State) : Result := .next (updateA (fun _ m c => ⟨m, logic8 m c⟩) o s)

/-- `ldab`: Load accumulator B (40 R102). -/
def execLdab (o : Opnd8) (s : State) : Result := .next (updateB (fun _ m c => ⟨m, logic8 m c⟩) o s)

/-- `ldd`: Load 16-bit register D (40 R103). -/
def execLdd (o : Opnd16) (s : State) : Result := .next (updateD (fun _ m c => ⟨m, logic16 m c⟩) o s)

/-- `lds`: Load 16-bit register SP (40 R104). -/
def execLds (o : Opnd16) (s : State) : Result :=
  let m := read16 o s
  .next ((m.2.setSp m.1).setCcr (logic16 m.1 m.2.ccr))

/-- `ldx`: Load 16-bit register X (40 R105). -/
def execLdx (o : Opnd16) (s : State) : Result :=
  let m := read16 o s
  .next ((m.2.setX m.1).setCcr (logic16 m.1 m.2.ccr))

/-- `ldy`: Load 16-bit register Y (40 R106). -/
def execLdy (o : Opnd16) (s : State) : Result :=
  let m := read16 o s
  .next ((m.2.setY m.1).setCcr (logic16 m.1 m.2.ccr))

/-- `staa`: Store accumulator A (40 R107). -/
def execStaa (m : Ea) (s : State) : Result := .next (store8 s.a m s)

/-- `stab`: Store accumulator B (40 R108). -/
def execStab (m : Ea) (s : State) : Result := .next (store8 s.b m s)

/-- `std`: Store 16-bit register D (40 R109). -/
def execStd (m : Ea) (s : State) : Result := .next (store16 s.d m s)

/-- `sts`: Store 16-bit register SP (40 R110). -/
def execSts (m : Ea) (s : State) : Result := .next (store16 s.sp m s)

/-- `stx`: Store 16-bit register X (40 R111). -/
def execStx (m : Ea) (s : State) : Result := .next (store16 s.x m s)

/-- `sty`: Store 16-bit register Y (40 R112). -/
def execSty (m : Ea) (s : State) : Result := .next (store16 s.y m s)

/-- `psha`: Push accumulator A (40 R113). -/
def execPsha (s : State) : Result := .next (push8 s.a s)

/-- `pshb`: Push accumulator B (40 R114). -/
def execPshb (s : State) : Result := .next (push8 s.b s)

/-- `pshx`: Push index register X (40 R115). -/
def execPshx (s : State) : Result := .next (push16 s.x s)

/-- `pshy`: Push index register Y (40 R116). -/
def execPshy (s : State) : Result := .next (push16 s.y s)

/-- `pula`: Pull accumulator A (40 R117). -/
def execPula (s : State) : Result := .next (pullA s)

/-- `pulb`: Pull accumulator B (40 R118). -/
def execPulb (s : State) : Result := .next (pullB s)

/-- `pulx`: Pull index register X (40 R119). -/
def execPulx (s : State) : Result := .next (pullX s)

/-- `puly`: Pull index register Y (40 R120). -/
def execPuly (s : State) : Result := .next (pullY s)

/-- `tab`: Transfer A to B (40 R121). -/
def execTab (s : State) : Result := .next ((s.setB s.a).setCcr (logic8 s.a s.ccr))

/-- `tba`: Transfer B to A (40 R122). -/
def execTba (s : State) : Result := .next ((s.setA s.b).setCcr (logic8 s.b s.ccr))

/-- `tsx`: Transfer SP to X (40 R123). -/
def execTsx (s : State) : Result := .next (s.setX (s.sp + 1))

/-- `tsy`: Transfer SP to Y (40 R124). -/
def execTsy (s : State) : Result := .next (s.setY (s.sp + 1))

/-- `txs`: Transfer X to SP (40 R125). -/
def execTxs (s : State) : Result := .next (s.setSp (s.x - 1))

/-- `tys`: Transfer Y to SP (40 R126). -/
def execTys (s : State) : Result := .next (s.setSp (s.y - 1))

/-- `xgdx`: Exchange D and X (40 R127). -/
def execXgdx (s : State) : Result := .next ((s.setD s.x).setX s.d)

/-- `xgdy`: Exchange D and Y (40 R128). -/
def execXgdy (s : State) : Result := .next ((s.setD s.y).setY s.d)

end Sys2Proof.Machine
end

