-- ==== Sys2Proof/Machine/LogicShift.lean ====
section
/-! DEFINITION. Logic, complement, shifts and rotates (42_logic_shift.md).
Each meaning begins with PC at the next instruction (10_state.md R21). -/

namespace Sys2Proof.Machine

open Sys2Proof

/-- `anda`: AND accumulator A (42 R171). -/
def execAnda (o : Opnd8) (s : State) : Result := .next (updateA (fun r m c => ⟨r &&& m, logic8 (r &&& m) c⟩) o s)

/-- `andb`: AND accumulator B (42 R172). -/
def execAndb (o : Opnd8) (s : State) : Result := .next (updateB (fun r m c => ⟨r &&& m, logic8 (r &&& m) c⟩) o s)

/-- `eora`: Exclusive OR accumulator A (42 R173). -/
def execEora (o : Opnd8) (s : State) : Result := .next (updateA (fun r m c => ⟨r ^^^ m, logic8 (r ^^^ m) c⟩) o s)

/-- `eorb`: Exclusive OR accumulator B (42 R174). -/
def execEorb (o : Opnd8) (s : State) : Result := .next (updateB (fun r m c => ⟨r ^^^ m, logic8 (r ^^^ m) c⟩) o s)

/-- `oraa`: OR accumulator A (42 R175). -/
def execOraa (o : Opnd8) (s : State) : Result := .next (updateA (fun r m c => ⟨r ||| m, logic8 (r ||| m) c⟩) o s)

/-- `orab`: OR accumulator B (42 R176). -/
def execOrab (o : Opnd8) (s : State) : Result := .next (updateB (fun r m c => ⟨r ||| m, logic8 (r ||| m) c⟩) o s)

/-- `bita`: Bit test accumulator A (42 R177). -/
def execBita (o : Opnd8) (s : State) : Result := .next (compare8 (fun r m c => logic8 (r &&& m) c) s.a o s)

/-- `bitb`: Bit test accumulator B (42 R178). The rule contradicts itself on N and Z: its pseudocode takes them from B AND m, its
Flags line from A AND m; the model follows the pseudocode. DEDUCED, log entry 18. -/
def execBitb (o : Opnd8) (s : State) : Result := .next (compare8 (fun r m c => logic8 (r &&& m) c) s.b o s)

/-- `coma`: Complement accumulator A (one's complement) (42 R179). -/
def execComa (s : State) : Result := .next (modifyA com8 s)

/-- `comb`: Complement accumulator B (one's complement) (42 R180). -/
def execComb (s : State) : Result := .next (modifyB com8 s)

/-- `com`: Complement memory byte (42 R181). -/
def execCom (m : EaNoDir) (s : State) : Result := .next (modifyMem com8 (ea m.toEa s) s)

/-- `asla`: Arithmetic shift left accumulator A (42 R182). -/
def execAsla (s : State) : Result := .next (modifyA asl8 s)

/-- `aslb`: Arithmetic shift left accumulator B (42 R183). -/
def execAslb (s : State) : Result := .next (modifyB asl8 s)

/-- `asl`: Arithmetic shift left memory byte (42 R184). -/
def execAsl (m : EaNoDir) (s : State) : Result := .next (modifyMem asl8 (ea m.toEa s) s)

/-- `asra`: Arithmetic shift right accumulator A (42 R185). -/
def execAsra (s : State) : Result := .next (modifyA asr8 s)

/-- `asrb`: Arithmetic shift right accumulator B (42 R186). -/
def execAsrb (s : State) : Result := .next (modifyB asr8 s)

/-- `asr`: Arithmetic shift right memory byte (42 R187). -/
def execAsr (m : EaNoDir) (s : State) : Result := .next (modifyMem asr8 (ea m.toEa s) s)

/-- `lsra`: Logical shift right accumulator A (42 R188). -/
def execLsra (s : State) : Result := .next (modifyA lsr8 s)

/-- `lsrb`: Logical shift right accumulator B (42 R189). -/
def execLsrb (s : State) : Result := .next (modifyB lsr8 s)

/-- `lsr`: Logical shift right memory byte (42 R190). -/
def execLsr (m : EaNoDir) (s : State) : Result := .next (modifyMem lsr8 (ea m.toEa s) s)

/-- `rola`: Rotate left through carry accumulator A (42 R191). -/
def execRola (s : State) : Result := .next (modifyA rol8 s)

/-- `rolb`: Rotate left through carry accumulator B (42 R192). -/
def execRolb (s : State) : Result := .next (modifyB rol8 s)

/-- `rol`: Rotate left through carry memory byte (42 R193). -/
def execRol (m : EaNoDir) (s : State) : Result := .next (modifyMem rol8 (ea m.toEa s) s)

/-- `rora`: Rotate right through carry accumulator A (42 R194). -/
def execRora (s : State) : Result := .next (modifyA ror8 s)

/-- `rorb`: Rotate right through carry accumulator B (42 R195). -/
def execRorb (s : State) : Result := .next (modifyB ror8 s)

/-- `ror`: Rotate right through carry memory byte (42 R196). -/
def execRor (m : EaNoDir) (s : State) : Result := .next (modifyMem ror8 (ea m.toEa s) s)

/-- `asld`: Arithmetic shift left D (16-bit) (42 R197). -/
def execAsld (s : State) : Result :=
  let r := asl16 s.d s.ccr
  .next ((s.setD r.value).setCcr r.ccr)

/-- `lsrd`: Logical shift right D (16-bit) (42 R198). -/
def execLsrd (s : State) : Result :=
  let r := lsr16 s.d s.ccr
  .next ((s.setD r.value).setCcr r.ccr)

end Sys2Proof.Machine
end

