-- ==== Sys2Proof/Machine/SystemOps.lean ====
section
/-! DEFINITION. Condition codes, traps and power states (45_system.md), unmapped opcodes (30_encoding.md R87) and the prefix byte (R84).
Each meaning begins with PC at the next instruction (10_state.md R21). -/

namespace Sys2Proof.Machine

open Sys2Proof

/-- An unmapped opcode (30 R87): a no-op with a diagnostic that names the page, the byte, the address the byte was fetched
from (PC - 1) and last_pc. -/
def execInvalid (page : Page) (op : Byte) (s : State) : Result :=
  .next (s.emit (.invalidOpcode page op (s.pc - 1) s.lastPc))

/-- A prefix byte by itself (30 R84): it is consumed and nothing else happens; no step runs it, since no bytes decode to it.
Log entry 12. -/
def execPrefixByte (_p : PrefixByte) (s : State) : Result := .next s

/-- `clc`: Clear carry (45 R224). -/
def execClc (s : State) : Result := .next (s.putFlag .c false)

/-- `sec`: Set carry (45 R225). -/
def execSec (s : State) : Result := .next (s.putFlag .c true)

/-- `clv`: Clear overflow (45 R226). -/
def execClv (s : State) : Result := .next (s.putFlag .v false)

/-- `sev`: Set overflow (45 R227). -/
def execSev (s : State) : Result := .next (s.putFlag .v true)

/-- `cli`: Clear interrupt mask (45 R228). -/
def execCli (s : State) : Result := .next (s.putFlag .i false)

/-- `sei`: Set interrupt mask (45 R229). -/
def execSei (s : State) : Result := .next (s.putFlag .i true)

/-- `tap`: Transfer A to CCR (45 R230). -/
def execTap (s : State) : Result := .next (s.setCcr (setCcrByte s.a s.ccr))

/-- `tpa`: Transfer CCR to A (45 R231). -/
def execTpa (s : State) : Result := .next (s.setA s.ccr)

/-- `nop`: No operation (45 R232). -/
def execNop (s : State) : Result := .next s

/-- `swi`: Software interrupt (45 R233). -/
def execSwi (s : State) : Result := .next (takeTrap s)

/-- `rti`: Return from interrupt (45 R234). -/
def execRti (s : State) : Result := .next (returnFromTrap s)

/-- `wai`: Wait for interrupt (45 R235). -/
def execWai (s : State) : Result := .next ((pushFrame s).setStatus .waiting)

/-- `stop`: Stop clocks (45 R236). -/
def execStop (s : State) : Result := .next (if s.flag .s then s else s.setStatus .stopped)

end Sys2Proof.Machine
end

