-- ==== Sys2Proof/WellFormed.lean ====
section
/-! DEFINITION. Well-formed instructions: an unmapped opcode is well formed when its page has no entry for it
(30_encoding.md R88, R92 to R94), and a prefix byte by itself is no instruction (R84). Every other constructor's operands
are well formed by their types. -/

namespace Sys2Proof

/-- A byte that is a prefix when it is an instruction's first byte (R84). -/
def isPrefixByte (b : Byte) : Bool := b == 0x18 || b == 0x1A || b == 0xCD

/-- The 21 unmapped bytes of page 1 (R88). -/
def unmappedOnPage1 : List Byte :=
  [0x00, 0x41, 0x42, 0x45, 0x4B, 0x4E, 0x51, 0x52, 0x55, 0x5B, 0x5E, 0x61, 0x62, 0x65, 0x6B, 0x71] ++
  [0x72, 0x75, 0x7B, 0x87, 0xC7]

/-- The mapped bytes of page 2 (R92). -/
def mappedOnPage2 : List Byte :=
  [0x08, 0x09, 0x1C, 0x1D, 0x1E, 0x1F, 0x30, 0x35, 0x38, 0x3A, 0x3C, 0x60, 0x63, 0x64, 0x66, 0x67] ++
  [0x68, 0x69, 0x6A, 0x6C, 0x6D, 0x6E, 0x6F, 0x8C, 0x8F, 0x9C, 0xA0, 0xA1, 0xA2, 0xA3, 0xA4, 0xA5] ++
  [0xA6, 0xA7, 0xA8, 0xA9, 0xAA, 0xAB, 0xAC, 0xAD, 0xAE, 0xAF, 0xBC, 0xCE, 0xDE, 0xDF, 0xE0, 0xE1] ++
  [0xE2, 0xE3, 0xE4, 0xE5, 0xE6, 0xE7, 0xE8, 0xE9, 0xEA, 0xEB, 0xEC, 0xED, 0xEE, 0xEF, 0xFE, 0xFF]

/-- The mapped bytes of page 3 (R93). -/
def mappedOnPage3 : List Byte :=
  [0x83, 0x93, 0xA3, 0xAC, 0xB3, 0xEE, 0xEF]

/-- The mapped bytes of page 4 (R94). -/
def mappedOnPage4 : List Byte :=
  [0xA3, 0xAC, 0xEE, 0xEF]

/-- The page has an entry for the byte (R88). -/
def mapped : Page → Byte → Bool
  | .p1, op => !unmappedOnPage1.contains op && !isPrefixByte op
  | .p2, op => mappedOnPage2.contains op
  | .p3, op => mappedOnPage3.contains op
  | .p4, op => mappedOnPage4.contains op

/-- The byte can stand for an unmapped opcode of the page: it has no entry there and, on page 1, it is no prefix (R84, R88). -/
def unmapped (page : Page) (op : Byte) : Bool :=
  !mapped page op && !(page == .p1 && isPrefixByte op)

/-- An instruction the decoder can give. -/
def Instr.wf : Instr → Bool
  | .clra => true
  | .clrb => true
  | .clr _ => true
  | .ldaa _ => true
  | .ldab _ => true
  | .ldd _ => true
  | .lds _ => true
  | .ldx _ => true
  | .ldy _ => true
  | .staa _ => true
  | .stab _ => true
  | .std _ => true
  | .sts _ => true
  | .stx _ => true
  | .sty _ => true
  | .psha => true
  | .pshb => true
  | .pshx => true
  | .pshy => true
  | .pula => true
  | .pulb => true
  | .pulx => true
  | .puly => true
  | .tab => true
  | .tba => true
  | .tsx => true
  | .tsy => true
  | .txs => true
  | .tys => true
  | .xgdx => true
  | .xgdy => true
  | .aba => true
  | .adda _ => true
  | .adca _ => true
  | .addb _ => true
  | .adcb _ => true
  | .addd _ => true
  | .sba => true
  | .suba _ => true
  | .sbca _ => true
  | .subb _ => true
  | .sbcb _ => true
  | .subd _ => true
  | .cba => true
  | .cmpa _ => true
  | .cmpb _ => true
  | .cpd _ => true
  | .cpx _ => true
  | .cpy _ => true
  | .inca => true
  | .incb => true
  | .inc _ => true
  | .deca => true
  | .decb => true
  | .dec _ => true
  | .nega => true
  | .negb => true
  | .neg _ => true
  | .tsta => true
  | .tstb => true
  | .tst _ => true
  | .daa => true
  | .abx => true
  | .aby => true
  | .inx => true
  | .iny => true
  | .dex => true
  | .dey => true
  | .ins => true
  | .des => true
  | .mul => true
  | .idiv => true
  | .fdiv => true
  | .anda _ => true
  | .andb _ => true
  | .eora _ => true
  | .eorb _ => true
  | .oraa _ => true
  | .orab _ => true
  | .bita _ => true
  | .bitb _ => true
  | .coma => true
  | .comb => true
  | .com _ => true
  | .asla => true
  | .aslb => true
  | .asl _ => true
  | .asra => true
  | .asrb => true
  | .asr _ => true
  | .lsra => true
  | .lsrb => true
  | .lsr _ => true
  | .rola => true
  | .rolb => true
  | .rol _ => true
  | .rora => true
  | .rorb => true
  | .ror _ => true
  | .asld => true
  | .lsrd => true
  | .bset _ _ => true
  | .bclr _ _ => true
  | .brset _ _ _ => true
  | .brclr _ _ _ => true
  | .bra _ => true
  | .brn _ => true
  | .bhi _ => true
  | .bls _ => true
  | .bcc _ => true
  | .bcs _ => true
  | .bne _ => true
  | .beq _ => true
  | .bvc _ => true
  | .bvs _ => true
  | .bpl _ => true
  | .bmi _ => true
  | .bge _ => true
  | .blt _ => true
  | .bgt _ => true
  | .ble _ => true
  | .bsr _ => true
  | .jmp _ => true
  | .jsr _ => true
  | .rts => true
  | .clc => true
  | .sec => true
  | .clv => true
  | .sev => true
  | .cli => true
  | .sei => true
  | .tap => true
  | .tpa => true
  | .nop => true
  | .swi => true
  | .rti => true
  | .wai => true
  | .stop => true
  | .invalid page op => unmapped page op
  | .prefixByte _ => false

end Sys2Proof
end

