-- ==== Sys2Proof/Decode.lean ====
section
/-! DEFINITION. The decoder and the encoder. The decoder is the data-driven table of 30_encoding.md R90: the maps R91 to R94
as rows. The encoder is written from the Encoding line of each instruction's rule (files 40 to 45). -/

namespace Sys2Proof

open Sys2Proof.Machine (hiByte loByte joinBytes)

/-- The instruction formats (30_encoding.md R72), each with the instruction its operand bytes give. -/
inductive Form where
  | fInh (i : Instr)
  | fImm8 (mk : Byte → Instr)
  | fImm16 (mk : Word → Instr)
  | fDir (mk : Byte → Instr)
  | fExt (mk : Word → Instr)
  | fInd (mk : Byte → Instr)
  | fRel (mk : Byte → Instr)
  | fBit (mk : Byte → Byte → Instr)
  | fBrb (mk : Byte → Byte → Byte → Instr)

/-- A row of a page's map: opcode, cycles (the default `CYCLE_TABLE`, 70_reset_and_hazards.md R270) and format. -/
structure Row where
  op : Byte
  cycles : Nat
  form : Form

/-- Page 1, opcodes 0x00 to 0x0F (R91). -/
def page1Rows0 : List Row :=
  [ ⟨0x01, 2, .fInh .nop⟩,
    ⟨0x02, 41, .fInh .idiv⟩,
    ⟨0x03, 41, .fInh .fdiv⟩,
    ⟨0x04, 3, .fInh .lsrd⟩,
    ⟨0x05, 3, .fInh .asld⟩,
    ⟨0x06, 2, .fInh .tap⟩,
    ⟨0x07, 2, .fInh .tpa⟩,
    ⟨0x08, 3, .fInh .inx⟩,
    ⟨0x09, 3, .fInh .dex⟩,
    ⟨0x0A, 2, .fInh .clv⟩,
    ⟨0x0B, 2, .fInh .sev⟩,
    ⟨0x0C, 2, .fInh .clc⟩,
    ⟨0x0D, 2, .fInh .sec⟩,
    ⟨0x0E, 2, .fInh .cli⟩,
    ⟨0x0F, 2, .fInh .sei⟩ ]

/-- Page 1, opcodes 0x10 to 0x1F (R91). -/
def page1Rows1 : List Row :=
  [ ⟨0x10, 2, .fInh .sba⟩,
    ⟨0x11, 2, .fInh .cba⟩,
    ⟨0x12, 6, .fBrb fun dd mm rr => .brset (.dir dd) mm rr⟩,
    ⟨0x13, 6, .fBrb fun dd mm rr => .brclr (.dir dd) mm rr⟩,
    ⟨0x14, 6, .fBit fun dd mm => .bset (.dir dd) mm⟩,
    ⟨0x15, 6, .fBit fun dd mm => .bclr (.dir dd) mm⟩,
    ⟨0x16, 2, .fInh .tab⟩,
    ⟨0x17, 2, .fInh .tba⟩,
    ⟨0x19, 2, .fInh .daa⟩,
    ⟨0x1B, 2, .fInh .aba⟩,
    ⟨0x1C, 7, .fBit fun ff mm => .bset (.indx ff) mm⟩,
    ⟨0x1D, 7, .fBit fun ff mm => .bclr (.indx ff) mm⟩,
    ⟨0x1E, 7, .fBrb fun ff mm rr => .brset (.indx ff) mm rr⟩,
    ⟨0x1F, 7, .fBrb fun ff mm rr => .brclr (.indx ff) mm rr⟩ ]

/-- Page 1, opcodes 0x20 to 0x2F (R91). -/
def page1Rows2 : List Row :=
  [ ⟨0x20, 3, .fRel fun rr => .bra rr⟩,
    ⟨0x21, 3, .fRel fun rr => .brn rr⟩,
    ⟨0x22, 3, .fRel fun rr => .bhi rr⟩,
    ⟨0x23, 3, .fRel fun rr => .bls rr⟩,
    ⟨0x24, 3, .fRel fun rr => .bcc rr⟩,
    ⟨0x25, 3, .fRel fun rr => .bcs rr⟩,
    ⟨0x26, 3, .fRel fun rr => .bne rr⟩,
    ⟨0x27, 3, .fRel fun rr => .beq rr⟩,
    ⟨0x28, 3, .fRel fun rr => .bvc rr⟩,
    ⟨0x29, 3, .fRel fun rr => .bvs rr⟩,
    ⟨0x2A, 3, .fRel fun rr => .bpl rr⟩,
    ⟨0x2B, 3, .fRel fun rr => .bmi rr⟩,
    ⟨0x2C, 3, .fRel fun rr => .bge rr⟩,
    ⟨0x2D, 3, .fRel fun rr => .blt rr⟩,
    ⟨0x2E, 3, .fRel fun rr => .bgt rr⟩,
    ⟨0x2F, 3, .fRel fun rr => .ble rr⟩ ]

/-- Page 1, opcodes 0x30 to 0x3F (R91). -/
def page1Rows3 : List Row :=
  [ ⟨0x30, 3, .fInh .tsx⟩,
    ⟨0x31, 3, .fInh .ins⟩,
    ⟨0x32, 4, .fInh .pula⟩,
    ⟨0x33, 4, .fInh .pulb⟩,
    ⟨0x34, 3, .fInh .des⟩,
    ⟨0x35, 3, .fInh .txs⟩,
    ⟨0x36, 3, .fInh .psha⟩,
    ⟨0x37, 3, .fInh .pshb⟩,
    ⟨0x38, 5, .fInh .pulx⟩,
    ⟨0x39, 5, .fInh .rts⟩,
    ⟨0x3A, 3, .fInh .abx⟩,
    ⟨0x3B, 12, .fInh .rti⟩,
    ⟨0x3C, 4, .fInh .pshx⟩,
    ⟨0x3D, 10, .fInh .mul⟩,
    ⟨0x3E, 14, .fInh .wai⟩,
    ⟨0x3F, 14, .fInh .swi⟩ ]

/-- Page 1, opcodes 0x40 to 0x4F (R91). -/
def page1Rows4 : List Row :=
  [ ⟨0x40, 2, .fInh .nega⟩,
    ⟨0x43, 2, .fInh .coma⟩,
    ⟨0x44, 2, .fInh .lsra⟩,
    ⟨0x46, 2, .fInh .rora⟩,
    ⟨0x47, 2, .fInh .asra⟩,
    ⟨0x48, 2, .fInh .asla⟩,
    ⟨0x49, 2, .fInh .rola⟩,
    ⟨0x4A, 2, .fInh .deca⟩,
    ⟨0x4C, 2, .fInh .inca⟩,
    ⟨0x4D, 2, .fInh .tsta⟩,
    ⟨0x4F, 2, .fInh .clra⟩ ]

/-- Page 1, opcodes 0x50 to 0x5F (R91). -/
def page1Rows5 : List Row :=
  [ ⟨0x50, 2, .fInh .negb⟩,
    ⟨0x53, 2, .fInh .comb⟩,
    ⟨0x54, 2, .fInh .lsrb⟩,
    ⟨0x56, 2, .fInh .rorb⟩,
    ⟨0x57, 2, .fInh .asrb⟩,
    ⟨0x58, 2, .fInh .aslb⟩,
    ⟨0x59, 2, .fInh .rolb⟩,
    ⟨0x5A, 2, .fInh .decb⟩,
    ⟨0x5C, 2, .fInh .incb⟩,
    ⟨0x5D, 2, .fInh .tstb⟩,
    ⟨0x5F, 2, .fInh .clrb⟩ ]

/-- Page 1, opcodes 0x60 to 0x6F (R91). -/
def page1Rows6 : List Row :=
  [ ⟨0x60, 6, .fInd fun ff => .neg (.indx ff)⟩,
    ⟨0x63, 6, .fInd fun ff => .com (.indx ff)⟩,
    ⟨0x64, 6, .fInd fun ff => .lsr (.indx ff)⟩,
    ⟨0x66, 6, .fInd fun ff => .ror (.indx ff)⟩,
    ⟨0x67, 6, .fInd fun ff => .asr (.indx ff)⟩,
    ⟨0x68, 6, .fInd fun ff => .asl (.indx ff)⟩,
    ⟨0x69, 6, .fInd fun ff => .rol (.indx ff)⟩,
    ⟨0x6A, 6, .fInd fun ff => .dec (.indx ff)⟩,
    ⟨0x6C, 6, .fInd fun ff => .inc (.indx ff)⟩,
    ⟨0x6D, 6, .fInd fun ff => .tst (.indx ff)⟩,
    ⟨0x6E, 3, .fInd fun ff => .jmp (.indx ff)⟩,
    ⟨0x6F, 6, .fInd fun ff => .clr (.indx ff)⟩ ]

/-- Page 1, opcodes 0x70 to 0x7F (R91). -/
def page1Rows7 : List Row :=
  [ ⟨0x70, 6, .fExt fun hl => .neg (.ext hl)⟩,
    ⟨0x73, 6, .fExt fun hl => .com (.ext hl)⟩,
    ⟨0x74, 6, .fExt fun hl => .lsr (.ext hl)⟩,
    ⟨0x76, 6, .fExt fun hl => .ror (.ext hl)⟩,
    ⟨0x77, 6, .fExt fun hl => .asr (.ext hl)⟩,
    ⟨0x78, 6, .fExt fun hl => .asl (.ext hl)⟩,
    ⟨0x79, 6, .fExt fun hl => .rol (.ext hl)⟩,
    ⟨0x7A, 6, .fExt fun hl => .dec (.ext hl)⟩,
    ⟨0x7C, 6, .fExt fun hl => .inc (.ext hl)⟩,
    ⟨0x7D, 6, .fExt fun hl => .tst (.ext hl)⟩,
    ⟨0x7E, 3, .fExt fun hl => .jmp (.ext hl)⟩,
    ⟨0x7F, 6, .fExt fun hl => .clr (.ext hl)⟩ ]

/-- Page 1, opcodes 0x80 to 0x8F (R91). -/
def page1Rows8 : List Row :=
  [ ⟨0x80, 2, .fImm8 fun ii => .suba (.imm ii)⟩,
    ⟨0x81, 2, .fImm8 fun ii => .cmpa (.imm ii)⟩,
    ⟨0x82, 2, .fImm8 fun ii => .sbca (.imm ii)⟩,
    ⟨0x83, 4, .fImm16 fun jk => .subd (.imm jk)⟩,
    ⟨0x84, 2, .fImm8 fun ii => .anda (.imm ii)⟩,
    ⟨0x85, 2, .fImm8 fun ii => .bita (.imm ii)⟩,
    ⟨0x86, 2, .fImm8 fun ii => .ldaa (.imm ii)⟩,
    ⟨0x88, 2, .fImm8 fun ii => .eora (.imm ii)⟩,
    ⟨0x89, 2, .fImm8 fun ii => .adca (.imm ii)⟩,
    ⟨0x8A, 2, .fImm8 fun ii => .oraa (.imm ii)⟩,
    ⟨0x8B, 2, .fImm8 fun ii => .adda (.imm ii)⟩,
    ⟨0x8C, 4, .fImm16 fun jk => .cpx (.imm jk)⟩,
    ⟨0x8D, 6, .fRel fun rr => .bsr rr⟩,
    ⟨0x8E, 3, .fImm16 fun jk => .lds (.imm jk)⟩,
    ⟨0x8F, 3, .fInh .xgdx⟩ ]

/-- Page 1, opcodes 0x90 to 0x9F (R91). -/
def page1Rows9 : List Row :=
  [ ⟨0x90, 3, .fDir fun dd => .suba (.mem (.dir dd))⟩,
    ⟨0x91, 3, .fDir fun dd => .cmpa (.mem (.dir dd))⟩,
    ⟨0x92, 3, .fDir fun dd => .sbca (.mem (.dir dd))⟩,
    ⟨0x93, 5, .fDir fun dd => .subd (.mem (.dir dd))⟩,
    ⟨0x94, 3, .fDir fun dd => .anda (.mem (.dir dd))⟩,
    ⟨0x95, 3, .fDir fun dd => .bita (.mem (.dir dd))⟩,
    ⟨0x96, 3, .fDir fun dd => .ldaa (.mem (.dir dd))⟩,
    ⟨0x97, 3, .fDir fun dd => .staa (.dir dd)⟩,
    ⟨0x98, 3, .fDir fun dd => .eora (.mem (.dir dd))⟩,
    ⟨0x99, 3, .fDir fun dd => .adca (.mem (.dir dd))⟩,
    ⟨0x9A, 3, .fDir fun dd => .oraa (.mem (.dir dd))⟩,
    ⟨0x9B, 3, .fDir fun dd => .adda (.mem (.dir dd))⟩,
    ⟨0x9C, 5, .fDir fun dd => .cpx (.mem (.dir dd))⟩,
    ⟨0x9D, 5, .fDir fun dd => .jsr (.dir dd)⟩,
    ⟨0x9E, 4, .fDir fun dd => .lds (.mem (.dir dd))⟩,
    ⟨0x9F, 4, .fDir fun dd => .sts (.dir dd)⟩ ]

/-- Page 1, opcodes 0xA0 to 0xAF (R91). -/
def page1RowsA : List Row :=
  [ ⟨0xA0, 4, .fInd fun ff => .suba (.mem (.indx ff))⟩,
    ⟨0xA1, 4, .fInd fun ff => .cmpa (.mem (.indx ff))⟩,
    ⟨0xA2, 4, .fInd fun ff => .sbca (.mem (.indx ff))⟩,
    ⟨0xA3, 6, .fInd fun ff => .subd (.mem (.indx ff))⟩,
    ⟨0xA4, 4, .fInd fun ff => .anda (.mem (.indx ff))⟩,
    ⟨0xA5, 4, .fInd fun ff => .bita (.mem (.indx ff))⟩,
    ⟨0xA6, 4, .fInd fun ff => .ldaa (.mem (.indx ff))⟩,
    ⟨0xA7, 4, .fInd fun ff => .staa (.indx ff)⟩,
    ⟨0xA8, 4, .fInd fun ff => .eora (.mem (.indx ff))⟩,
    ⟨0xA9, 4, .fInd fun ff => .adca (.mem (.indx ff))⟩,
    ⟨0xAA, 4, .fInd fun ff => .oraa (.mem (.indx ff))⟩,
    ⟨0xAB, 4, .fInd fun ff => .adda (.mem (.indx ff))⟩,
    ⟨0xAC, 6, .fInd fun ff => .cpx (.mem (.indx ff))⟩,
    ⟨0xAD, 6, .fInd fun ff => .jsr (.indx ff)⟩,
    ⟨0xAE, 5, .fInd fun ff => .lds (.mem (.indx ff))⟩,
    ⟨0xAF, 5, .fInd fun ff => .sts (.indx ff)⟩ ]

/-- Page 1, opcodes 0xB0 to 0xBF (R91). -/
def page1RowsB : List Row :=
  [ ⟨0xB0, 4, .fExt fun hl => .suba (.mem (.ext hl))⟩,
    ⟨0xB1, 4, .fExt fun hl => .cmpa (.mem (.ext hl))⟩,
    ⟨0xB2, 4, .fExt fun hl => .sbca (.mem (.ext hl))⟩,
    ⟨0xB3, 6, .fExt fun hl => .subd (.mem (.ext hl))⟩,
    ⟨0xB4, 4, .fExt fun hl => .anda (.mem (.ext hl))⟩,
    ⟨0xB5, 4, .fExt fun hl => .bita (.mem (.ext hl))⟩,
    ⟨0xB6, 4, .fExt fun hl => .ldaa (.mem (.ext hl))⟩,
    ⟨0xB7, 4, .fExt fun hl => .staa (.ext hl)⟩,
    ⟨0xB8, 4, .fExt fun hl => .eora (.mem (.ext hl))⟩,
    ⟨0xB9, 4, .fExt fun hl => .adca (.mem (.ext hl))⟩,
    ⟨0xBA, 4, .fExt fun hl => .oraa (.mem (.ext hl))⟩,
    ⟨0xBB, 4, .fExt fun hl => .adda (.mem (.ext hl))⟩,
    ⟨0xBC, 6, .fExt fun hl => .cpx (.mem (.ext hl))⟩,
    ⟨0xBD, 6, .fExt fun hl => .jsr (.ext hl)⟩,
    ⟨0xBE, 5, .fExt fun hl => .lds (.mem (.ext hl))⟩,
    ⟨0xBF, 5, .fExt fun hl => .sts (.ext hl)⟩ ]

/-- Page 1, opcodes 0xC0 to 0xCF (R91). -/
def page1RowsC : List Row :=
  [ ⟨0xC0, 2, .fImm8 fun ii => .subb (.imm ii)⟩,
    ⟨0xC1, 2, .fImm8 fun ii => .cmpb (.imm ii)⟩,
    ⟨0xC2, 2, .fImm8 fun ii => .sbcb (.imm ii)⟩,
    ⟨0xC3, 4, .fImm16 fun jk => .addd (.imm jk)⟩,
    ⟨0xC4, 2, .fImm8 fun ii => .andb (.imm ii)⟩,
    ⟨0xC5, 2, .fImm8 fun ii => .bitb (.imm ii)⟩,
    ⟨0xC6, 2, .fImm8 fun ii => .ldab (.imm ii)⟩,
    ⟨0xC8, 2, .fImm8 fun ii => .eorb (.imm ii)⟩,
    ⟨0xC9, 2, .fImm8 fun ii => .adcb (.imm ii)⟩,
    ⟨0xCA, 2, .fImm8 fun ii => .orab (.imm ii)⟩,
    ⟨0xCB, 2, .fImm8 fun ii => .addb (.imm ii)⟩,
    ⟨0xCC, 3, .fImm16 fun jk => .ldd (.imm jk)⟩,
    ⟨0xCE, 3, .fImm16 fun jk => .ldx (.imm jk)⟩,
    ⟨0xCF, 2, .fInh .stop⟩ ]

/-- Page 1, opcodes 0xD0 to 0xDF (R91). -/
def page1RowsD : List Row :=
  [ ⟨0xD0, 3, .fDir fun dd => .subb (.mem (.dir dd))⟩,
    ⟨0xD1, 3, .fDir fun dd => .cmpb (.mem (.dir dd))⟩,
    ⟨0xD2, 3, .fDir fun dd => .sbcb (.mem (.dir dd))⟩,
    ⟨0xD3, 5, .fDir fun dd => .addd (.mem (.dir dd))⟩,
    ⟨0xD4, 3, .fDir fun dd => .andb (.mem (.dir dd))⟩,
    ⟨0xD5, 3, .fDir fun dd => .bitb (.mem (.dir dd))⟩,
    ⟨0xD6, 3, .fDir fun dd => .ldab (.mem (.dir dd))⟩,
    ⟨0xD7, 3, .fDir fun dd => .stab (.dir dd)⟩,
    ⟨0xD8, 3, .fDir fun dd => .eorb (.mem (.dir dd))⟩,
    ⟨0xD9, 3, .fDir fun dd => .adcb (.mem (.dir dd))⟩,
    ⟨0xDA, 3, .fDir fun dd => .orab (.mem (.dir dd))⟩,
    ⟨0xDB, 3, .fDir fun dd => .addb (.mem (.dir dd))⟩,
    ⟨0xDC, 4, .fDir fun dd => .ldd (.mem (.dir dd))⟩,
    ⟨0xDD, 4, .fDir fun dd => .std (.dir dd)⟩,
    ⟨0xDE, 4, .fDir fun dd => .ldx (.mem (.dir dd))⟩,
    ⟨0xDF, 4, .fDir fun dd => .stx (.dir dd)⟩ ]

/-- Page 1, opcodes 0xE0 to 0xEF (R91). -/
def page1RowsE : List Row :=
  [ ⟨0xE0, 4, .fInd fun ff => .subb (.mem (.indx ff))⟩,
    ⟨0xE1, 4, .fInd fun ff => .cmpb (.mem (.indx ff))⟩,
    ⟨0xE2, 4, .fInd fun ff => .sbcb (.mem (.indx ff))⟩,
    ⟨0xE3, 6, .fInd fun ff => .addd (.mem (.indx ff))⟩,
    ⟨0xE4, 4, .fInd fun ff => .andb (.mem (.indx ff))⟩,
    ⟨0xE5, 4, .fInd fun ff => .bitb (.mem (.indx ff))⟩,
    ⟨0xE6, 4, .fInd fun ff => .ldab (.mem (.indx ff))⟩,
    ⟨0xE7, 4, .fInd fun ff => .stab (.indx ff)⟩,
    ⟨0xE8, 4, .fInd fun ff => .eorb (.mem (.indx ff))⟩,
    ⟨0xE9, 4, .fInd fun ff => .adcb (.mem (.indx ff))⟩,
    ⟨0xEA, 4, .fInd fun ff => .orab (.mem (.indx ff))⟩,
    ⟨0xEB, 4, .fInd fun ff => .addb (.mem (.indx ff))⟩,
    ⟨0xEC, 5, .fInd fun ff => .ldd (.mem (.indx ff))⟩,
    ⟨0xED, 5, .fInd fun ff => .std (.indx ff)⟩,
    ⟨0xEE, 5, .fInd fun ff => .ldx (.mem (.indx ff))⟩,
    ⟨0xEF, 5, .fInd fun ff => .stx (.indx ff)⟩ ]

/-- Page 1, opcodes 0xF0 to 0xFF (R91). -/
def page1RowsF : List Row :=
  [ ⟨0xF0, 4, .fExt fun hl => .subb (.mem (.ext hl))⟩,
    ⟨0xF1, 4, .fExt fun hl => .cmpb (.mem (.ext hl))⟩,
    ⟨0xF2, 4, .fExt fun hl => .sbcb (.mem (.ext hl))⟩,
    ⟨0xF3, 6, .fExt fun hl => .addd (.mem (.ext hl))⟩,
    ⟨0xF4, 4, .fExt fun hl => .andb (.mem (.ext hl))⟩,
    ⟨0xF5, 4, .fExt fun hl => .bitb (.mem (.ext hl))⟩,
    ⟨0xF6, 4, .fExt fun hl => .ldab (.mem (.ext hl))⟩,
    ⟨0xF7, 4, .fExt fun hl => .stab (.ext hl)⟩,
    ⟨0xF8, 4, .fExt fun hl => .eorb (.mem (.ext hl))⟩,
    ⟨0xF9, 4, .fExt fun hl => .adcb (.mem (.ext hl))⟩,
    ⟨0xFA, 4, .fExt fun hl => .orab (.mem (.ext hl))⟩,
    ⟨0xFB, 4, .fExt fun hl => .addb (.mem (.ext hl))⟩,
    ⟨0xFC, 5, .fExt fun hl => .ldd (.mem (.ext hl))⟩,
    ⟨0xFD, 5, .fExt fun hl => .std (.ext hl)⟩,
    ⟨0xFE, 5, .fExt fun hl => .ldx (.mem (.ext hl))⟩,
    ⟨0xFF, 5, .fExt fun hl => .stx (.ext hl)⟩ ]

/-- Page 2 (prefix 0x18), opcodes below 0x80 (R92). -/
def page2RowsA : List Row :=
  [ ⟨0x08, 4, .fInh .iny⟩,
    ⟨0x09, 4, .fInh .dey⟩,
    ⟨0x1C, 8, .fBit fun ff mm => .bset (.indy ff) mm⟩,
    ⟨0x1D, 8, .fBit fun ff mm => .bclr (.indy ff) mm⟩,
    ⟨0x1E, 8, .fBrb fun ff mm rr => .brset (.indy ff) mm rr⟩,
    ⟨0x1F, 8, .fBrb fun ff mm rr => .brclr (.indy ff) mm rr⟩,
    ⟨0x30, 4, .fInh .tsy⟩,
    ⟨0x35, 4, .fInh .tys⟩,
    ⟨0x38, 6, .fInh .puly⟩,
    ⟨0x3A, 4, .fInh .aby⟩,
    ⟨0x3C, 5, .fInh .pshy⟩,
    ⟨0x60, 7, .fInd fun ff => .neg (.indy ff)⟩,
    ⟨0x63, 7, .fInd fun ff => .com (.indy ff)⟩,
    ⟨0x64, 7, .fInd fun ff => .lsr (.indy ff)⟩,
    ⟨0x66, 7, .fInd fun ff => .ror (.indy ff)⟩,
    ⟨0x67, 7, .fInd fun ff => .asr (.indy ff)⟩,
    ⟨0x68, 7, .fInd fun ff => .asl (.indy ff)⟩,
    ⟨0x69, 7, .fInd fun ff => .rol (.indy ff)⟩,
    ⟨0x6A, 7, .fInd fun ff => .dec (.indy ff)⟩,
    ⟨0x6C, 7, .fInd fun ff => .inc (.indy ff)⟩,
    ⟨0x6D, 7, .fInd fun ff => .tst (.indy ff)⟩,
    ⟨0x6E, 4, .fInd fun ff => .jmp (.indy ff)⟩,
    ⟨0x6F, 7, .fInd fun ff => .clr (.indy ff)⟩ ]

/-- Page 2 (prefix 0x18), opcodes 0x80 to 0xBF (R92). -/
def page2RowsB : List Row :=
  [ ⟨0x8C, 5, .fImm16 fun jk => .cpy (.imm jk)⟩,
    ⟨0x8F, 4, .fInh .xgdy⟩,
    ⟨0x9C, 6, .fDir fun dd => .cpy (.mem (.dir dd))⟩,
    ⟨0xA0, 5, .fInd fun ff => .suba (.mem (.indy ff))⟩,
    ⟨0xA1, 5, .fInd fun ff => .cmpa (.mem (.indy ff))⟩,
    ⟨0xA2, 5, .fInd fun ff => .sbca (.mem (.indy ff))⟩,
    ⟨0xA3, 7, .fInd fun ff => .subd (.mem (.indy ff))⟩,
    ⟨0xA4, 5, .fInd fun ff => .anda (.mem (.indy ff))⟩,
    ⟨0xA5, 5, .fInd fun ff => .bita (.mem (.indy ff))⟩,
    ⟨0xA6, 5, .fInd fun ff => .ldaa (.mem (.indy ff))⟩,
    ⟨0xA7, 5, .fInd fun ff => .staa (.indy ff)⟩,
    ⟨0xA8, 5, .fInd fun ff => .eora (.mem (.indy ff))⟩,
    ⟨0xA9, 5, .fInd fun ff => .adca (.mem (.indy ff))⟩,
    ⟨0xAA, 5, .fInd fun ff => .oraa (.mem (.indy ff))⟩,
    ⟨0xAB, 5, .fInd fun ff => .adda (.mem (.indy ff))⟩,
    ⟨0xAC, 7, .fInd fun ff => .cpy (.mem (.indy ff))⟩,
    ⟨0xAD, 7, .fInd fun ff => .jsr (.indy ff)⟩,
    ⟨0xAE, 6, .fInd fun ff => .lds (.mem (.indy ff))⟩,
    ⟨0xAF, 6, .fInd fun ff => .sts (.indy ff)⟩,
    ⟨0xBC, 7, .fExt fun hl => .cpy (.mem (.ext hl))⟩ ]

/-- Page 2 (prefix 0x18), opcodes from 0xC0 (R92). -/
def page2RowsC : List Row :=
  [ ⟨0xCE, 4, .fImm16 fun jk => .ldy (.imm jk)⟩,
    ⟨0xDE, 5, .fDir fun dd => .ldy (.mem (.dir dd))⟩,
    ⟨0xDF, 5, .fDir fun dd => .sty (.dir dd)⟩,
    ⟨0xE0, 5, .fInd fun ff => .subb (.mem (.indy ff))⟩,
    ⟨0xE1, 5, .fInd fun ff => .cmpb (.mem (.indy ff))⟩,
    ⟨0xE2, 5, .fInd fun ff => .sbcb (.mem (.indy ff))⟩,
    ⟨0xE3, 7, .fInd fun ff => .addd (.mem (.indy ff))⟩,
    ⟨0xE4, 5, .fInd fun ff => .andb (.mem (.indy ff))⟩,
    ⟨0xE5, 5, .fInd fun ff => .bitb (.mem (.indy ff))⟩,
    ⟨0xE6, 5, .fInd fun ff => .ldab (.mem (.indy ff))⟩,
    ⟨0xE7, 5, .fInd fun ff => .stab (.indy ff)⟩,
    ⟨0xE8, 5, .fInd fun ff => .eorb (.mem (.indy ff))⟩,
    ⟨0xE9, 5, .fInd fun ff => .adcb (.mem (.indy ff))⟩,
    ⟨0xEA, 5, .fInd fun ff => .orab (.mem (.indy ff))⟩,
    ⟨0xEB, 5, .fInd fun ff => .addb (.mem (.indy ff))⟩,
    ⟨0xEC, 6, .fInd fun ff => .ldd (.mem (.indy ff))⟩,
    ⟨0xED, 6, .fInd fun ff => .std (.indy ff)⟩,
    ⟨0xEE, 6, .fInd fun ff => .ldy (.mem (.indy ff))⟩,
    ⟨0xEF, 6, .fInd fun ff => .sty (.indy ff)⟩,
    ⟨0xFE, 6, .fExt fun hl => .ldy (.mem (.ext hl))⟩,
    ⟨0xFF, 6, .fExt fun hl => .sty (.ext hl)⟩ ]

/-- Page 3 (prefix 0x1A) (R93). -/
def page3Rows : List Row :=
  [ ⟨0x83, 5, .fImm16 fun jk => .cpd (.imm jk)⟩,
    ⟨0x93, 6, .fDir fun dd => .cpd (.mem (.dir dd))⟩,
    ⟨0xA3, 7, .fInd fun ff => .cpd (.mem (.indx ff))⟩,
    ⟨0xAC, 7, .fInd fun ff => .cpy (.mem (.indx ff))⟩,
    ⟨0xB3, 7, .fExt fun hl => .cpd (.mem (.ext hl))⟩,
    ⟨0xEE, 6, .fInd fun ff => .ldy (.mem (.indx ff))⟩,
    ⟨0xEF, 6, .fInd fun ff => .sty (.indx ff)⟩ ]

/-- Page 4 (prefix 0xCD) (R94). -/
def page4Rows : List Row :=
  [ ⟨0xA3, 7, .fInd fun ff => .cpd (.mem (.indy ff))⟩,
    ⟨0xAC, 7, .fInd fun ff => .cpx (.mem (.indy ff))⟩,
    ⟨0xEE, 6, .fInd fun ff => .ldx (.mem (.indy ff))⟩,
    ⟨0xEF, 6, .fInd fun ff => .stx (.indy ff)⟩ ]

/-- The rows of page 1 with the byte's high four bits. -/
def page1RowsFor : Nat → List Row
  | 0 => page1Rows0
  | 1 => page1Rows1
  | 2 => page1Rows2
  | 3 => page1Rows3
  | 4 => page1Rows4
  | 5 => page1Rows5
  | 6 => page1Rows6
  | 7 => page1Rows7
  | 8 => page1Rows8
  | 9 => page1Rows9
  | 10 => page1RowsA
  | 11 => page1RowsB
  | 12 => page1RowsC
  | 13 => page1RowsD
  | 14 => page1RowsE
  | 15 => page1RowsF
  | _ => []

/-- The rows of a page among which an opcode's entry stands (on page 1, those with its high four bits). -/
def rowsFor : Page → Byte → List Row
  | .p1, op => page1RowsFor (op.toNat / 16)
  | .p2, _ => page2RowsA ++ page2RowsB ++ page2RowsC
  | .p3, _ => page3Rows
  | .p4, _ => page4Rows

/-- `TABLE(page, op)` (30_encoding.md R86): the page's entry for the byte, or none. -/
def lookup (page : Page) (op : Byte) : Option Row :=
  (rowsFor page op).find? fun r => r.op == op

/-- The page a prefix byte selects, or none for a byte that is no prefix (R84). -/
def pageOfPrefix (b : Byte) : Option Page :=
  if b = 0x18 then some .p2 else if b = 0x1A then some .p3 else if b = 0xCD then some .p4 else none

/-- The instruction of a format, its operand bytes read in order (R72; 16-bit operands high byte first, R71). -/
def Form.build : Form → (Nat → Byte) → Instr
  | .fInh i, _ => i
  | .fImm8 mk, get => mk (get 0)
  | .fImm16 mk, get => mk (joinBytes (get 0) (get 1))
  | .fDir mk, get => mk (get 0)
  | .fExt mk, get => mk (joinBytes (get 0) (get 1))
  | .fInd mk, get => mk (get 0)
  | .fRel mk, get => mk (get 0)
  | .fBit mk, get => mk (get 0) (get 1)
  | .fBrb mk, get => mk (get 0) (get 1) (get 2)

/-- The instruction of an opcode byte on a page; `get n` is the n-th byte after it. An opcode with no entry is the
instruction `invalid` (R87). -/
def decodeOn (page : Page) (op : Byte) (get : Nat → Byte) : Instr :=
  match lookup page op with
  | none => .invalid page op
  | some r => r.form.build get

/-- The instruction whose n-th byte is `get n` (R84 to R87): total, as fetching from memory is. -/
def decodeStream (get : Nat → Byte) : Instr :=
  match pageOfPrefix (get 0) with
  | none => decodeOn .p1 (get 0) fun n => get (n + 1)
  | some p => decodeOn p (get 1) fun n => get (n + 2)

/-- The prefix byte itself. -/
def PrefixByte.byte : PrefixByte → Byte
  | .x18 => 0x18
  | .x1A => 0x1A
  | .xCD => 0xCD

/-- The bytes before the opcode of a page's instructions. -/
def prefixOfPage : Page → List Byte
  | .p1 => []
  | .p2 => [0x18]
  | .p3 => [0x1A]
  | .p4 => [0xCD]

/-- The bytes of an instruction, from the Encoding line of its rule. -/
def encode : Instr → List Byte
  | .clra => [0x4F]
  | .clrb => [0x5F]
  | .clr (.ext hl) => [0x7F, hiByte hl, loByte hl]
  | .clr (.indx ff) => [0x6F, ff]
  | .clr (.indy ff) => [0x18, 0x6F, ff]
  | .ldaa (.imm ii) => [0x86, ii]
  | .ldaa (.mem (.dir dd)) => [0x96, dd]
  | .ldaa (.mem (.ext hl)) => [0xB6, hiByte hl, loByte hl]
  | .ldaa (.mem (.indx ff)) => [0xA6, ff]
  | .ldaa (.mem (.indy ff)) => [0x18, 0xA6, ff]
  | .ldab (.imm ii) => [0xC6, ii]
  | .ldab (.mem (.dir dd)) => [0xD6, dd]
  | .ldab (.mem (.ext hl)) => [0xF6, hiByte hl, loByte hl]
  | .ldab (.mem (.indx ff)) => [0xE6, ff]
  | .ldab (.mem (.indy ff)) => [0x18, 0xE6, ff]
  | .ldd (.imm jk) => [0xCC, hiByte jk, loByte jk]
  | .ldd (.mem (.dir dd)) => [0xDC, dd]
  | .ldd (.mem (.ext hl)) => [0xFC, hiByte hl, loByte hl]
  | .ldd (.mem (.indx ff)) => [0xEC, ff]
  | .ldd (.mem (.indy ff)) => [0x18, 0xEC, ff]
  | .lds (.imm jk) => [0x8E, hiByte jk, loByte jk]
  | .lds (.mem (.dir dd)) => [0x9E, dd]
  | .lds (.mem (.ext hl)) => [0xBE, hiByte hl, loByte hl]
  | .lds (.mem (.indx ff)) => [0xAE, ff]
  | .lds (.mem (.indy ff)) => [0x18, 0xAE, ff]
  | .ldx (.imm jk) => [0xCE, hiByte jk, loByte jk]
  | .ldx (.mem (.dir dd)) => [0xDE, dd]
  | .ldx (.mem (.ext hl)) => [0xFE, hiByte hl, loByte hl]
  | .ldx (.mem (.indx ff)) => [0xEE, ff]
  | .ldx (.mem (.indy ff)) => [0xCD, 0xEE, ff]
  | .ldy (.imm jk) => [0x18, 0xCE, hiByte jk, loByte jk]
  | .ldy (.mem (.dir dd)) => [0x18, 0xDE, dd]
  | .ldy (.mem (.ext hl)) => [0x18, 0xFE, hiByte hl, loByte hl]
  | .ldy (.mem (.indx ff)) => [0x1A, 0xEE, ff]
  | .ldy (.mem (.indy ff)) => [0x18, 0xEE, ff]
  | .staa (.dir dd) => [0x97, dd]
  | .staa (.ext hl) => [0xB7, hiByte hl, loByte hl]
  | .staa (.indx ff) => [0xA7, ff]
  | .staa (.indy ff) => [0x18, 0xA7, ff]
  | .stab (.dir dd) => [0xD7, dd]
  | .stab (.ext hl) => [0xF7, hiByte hl, loByte hl]
  | .stab (.indx ff) => [0xE7, ff]
  | .stab (.indy ff) => [0x18, 0xE7, ff]
  | .std (.dir dd) => [0xDD, dd]
  | .std (.ext hl) => [0xFD, hiByte hl, loByte hl]
  | .std (.indx ff) => [0xED, ff]
  | .std (.indy ff) => [0x18, 0xED, ff]
  | .sts (.dir dd) => [0x9F, dd]
  | .sts (.ext hl) => [0xBF, hiByte hl, loByte hl]
  | .sts (.indx ff) => [0xAF, ff]
  | .sts (.indy ff) => [0x18, 0xAF, ff]
  | .stx (.dir dd) => [0xDF, dd]
  | .stx (.ext hl) => [0xFF, hiByte hl, loByte hl]
  | .stx (.indx ff) => [0xEF, ff]
  | .stx (.indy ff) => [0xCD, 0xEF, ff]
  | .sty (.dir dd) => [0x18, 0xDF, dd]
  | .sty (.ext hl) => [0x18, 0xFF, hiByte hl, loByte hl]
  | .sty (.indx ff) => [0x1A, 0xEF, ff]
  | .sty (.indy ff) => [0x18, 0xEF, ff]
  | .psha => [0x36]
  | .pshb => [0x37]
  | .pshx => [0x3C]
  | .pshy => [0x18, 0x3C]
  | .pula => [0x32]
  | .pulb => [0x33]
  | .pulx => [0x38]
  | .puly => [0x18, 0x38]
  | .tab => [0x16]
  | .tba => [0x17]
  | .tsx => [0x30]
  | .tsy => [0x18, 0x30]
  | .txs => [0x35]
  | .tys => [0x18, 0x35]
  | .xgdx => [0x8F]
  | .xgdy => [0x18, 0x8F]
  | .aba => [0x1B]
  | .adda (.imm ii) => [0x8B, ii]
  | .adda (.mem (.dir dd)) => [0x9B, dd]
  | .adda (.mem (.ext hl)) => [0xBB, hiByte hl, loByte hl]
  | .adda (.mem (.indx ff)) => [0xAB, ff]
  | .adda (.mem (.indy ff)) => [0x18, 0xAB, ff]
  | .adca (.imm ii) => [0x89, ii]
  | .adca (.mem (.dir dd)) => [0x99, dd]
  | .adca (.mem (.ext hl)) => [0xB9, hiByte hl, loByte hl]
  | .adca (.mem (.indx ff)) => [0xA9, ff]
  | .adca (.mem (.indy ff)) => [0x18, 0xA9, ff]
  | .addb (.imm ii) => [0xCB, ii]
  | .addb (.mem (.dir dd)) => [0xDB, dd]
  | .addb (.mem (.ext hl)) => [0xFB, hiByte hl, loByte hl]
  | .addb (.mem (.indx ff)) => [0xEB, ff]
  | .addb (.mem (.indy ff)) => [0x18, 0xEB, ff]
  | .adcb (.imm ii) => [0xC9, ii]
  | .adcb (.mem (.dir dd)) => [0xD9, dd]
  | .adcb (.mem (.ext hl)) => [0xF9, hiByte hl, loByte hl]
  | .adcb (.mem (.indx ff)) => [0xE9, ff]
  | .adcb (.mem (.indy ff)) => [0x18, 0xE9, ff]
  | .addd (.imm jk) => [0xC3, hiByte jk, loByte jk]
  | .addd (.mem (.dir dd)) => [0xD3, dd]
  | .addd (.mem (.ext hl)) => [0xF3, hiByte hl, loByte hl]
  | .addd (.mem (.indx ff)) => [0xE3, ff]
  | .addd (.mem (.indy ff)) => [0x18, 0xE3, ff]
  | .sba => [0x10]
  | .suba (.imm ii) => [0x80, ii]
  | .suba (.mem (.dir dd)) => [0x90, dd]
  | .suba (.mem (.ext hl)) => [0xB0, hiByte hl, loByte hl]
  | .suba (.mem (.indx ff)) => [0xA0, ff]
  | .suba (.mem (.indy ff)) => [0x18, 0xA0, ff]
  | .sbca (.imm ii) => [0x82, ii]
  | .sbca (.mem (.dir dd)) => [0x92, dd]
  | .sbca (.mem (.ext hl)) => [0xB2, hiByte hl, loByte hl]
  | .sbca (.mem (.indx ff)) => [0xA2, ff]
  | .sbca (.mem (.indy ff)) => [0x18, 0xA2, ff]
  | .subb (.imm ii) => [0xC0, ii]
  | .subb (.mem (.dir dd)) => [0xD0, dd]
  | .subb (.mem (.ext hl)) => [0xF0, hiByte hl, loByte hl]
  | .subb (.mem (.indx ff)) => [0xE0, ff]
  | .subb (.mem (.indy ff)) => [0x18, 0xE0, ff]
  | .sbcb (.imm ii) => [0xC2, ii]
  | .sbcb (.mem (.dir dd)) => [0xD2, dd]
  | .sbcb (.mem (.ext hl)) => [0xF2, hiByte hl, loByte hl]
  | .sbcb (.mem (.indx ff)) => [0xE2, ff]
  | .sbcb (.mem (.indy ff)) => [0x18, 0xE2, ff]
  | .subd (.imm jk) => [0x83, hiByte jk, loByte jk]
  | .subd (.mem (.dir dd)) => [0x93, dd]
  | .subd (.mem (.ext hl)) => [0xB3, hiByte hl, loByte hl]
  | .subd (.mem (.indx ff)) => [0xA3, ff]
  | .subd (.mem (.indy ff)) => [0x18, 0xA3, ff]
  | .cba => [0x11]
  | .cmpa (.imm ii) => [0x81, ii]
  | .cmpa (.mem (.dir dd)) => [0x91, dd]
  | .cmpa (.mem (.ext hl)) => [0xB1, hiByte hl, loByte hl]
  | .cmpa (.mem (.indx ff)) => [0xA1, ff]
  | .cmpa (.mem (.indy ff)) => [0x18, 0xA1, ff]
  | .cmpb (.imm ii) => [0xC1, ii]
  | .cmpb (.mem (.dir dd)) => [0xD1, dd]
  | .cmpb (.mem (.ext hl)) => [0xF1, hiByte hl, loByte hl]
  | .cmpb (.mem (.indx ff)) => [0xE1, ff]
  | .cmpb (.mem (.indy ff)) => [0x18, 0xE1, ff]
  | .cpd (.imm jk) => [0x1A, 0x83, hiByte jk, loByte jk]
  | .cpd (.mem (.dir dd)) => [0x1A, 0x93, dd]
  | .cpd (.mem (.ext hl)) => [0x1A, 0xB3, hiByte hl, loByte hl]
  | .cpd (.mem (.indx ff)) => [0x1A, 0xA3, ff]
  | .cpd (.mem (.indy ff)) => [0xCD, 0xA3, ff]
  | .cpx (.imm jk) => [0x8C, hiByte jk, loByte jk]
  | .cpx (.mem (.dir dd)) => [0x9C, dd]
  | .cpx (.mem (.ext hl)) => [0xBC, hiByte hl, loByte hl]
  | .cpx (.mem (.indx ff)) => [0xAC, ff]
  | .cpx (.mem (.indy ff)) => [0xCD, 0xAC, ff]
  | .cpy (.imm jk) => [0x18, 0x8C, hiByte jk, loByte jk]
  | .cpy (.mem (.dir dd)) => [0x18, 0x9C, dd]
  | .cpy (.mem (.ext hl)) => [0x18, 0xBC, hiByte hl, loByte hl]
  | .cpy (.mem (.indx ff)) => [0x1A, 0xAC, ff]
  | .cpy (.mem (.indy ff)) => [0x18, 0xAC, ff]
  | .inca => [0x4C]
  | .incb => [0x5C]
  | .inc (.ext hl) => [0x7C, hiByte hl, loByte hl]
  | .inc (.indx ff) => [0x6C, ff]
  | .inc (.indy ff) => [0x18, 0x6C, ff]
  | .deca => [0x4A]
  | .decb => [0x5A]
  | .dec (.ext hl) => [0x7A, hiByte hl, loByte hl]
  | .dec (.indx ff) => [0x6A, ff]
  | .dec (.indy ff) => [0x18, 0x6A, ff]
  | .nega => [0x40]
  | .negb => [0x50]
  | .neg (.ext hl) => [0x70, hiByte hl, loByte hl]
  | .neg (.indx ff) => [0x60, ff]
  | .neg (.indy ff) => [0x18, 0x60, ff]
  | .tsta => [0x4D]
  | .tstb => [0x5D]
  | .tst (.ext hl) => [0x7D, hiByte hl, loByte hl]
  | .tst (.indx ff) => [0x6D, ff]
  | .tst (.indy ff) => [0x18, 0x6D, ff]
  | .daa => [0x19]
  | .abx => [0x3A]
  | .aby => [0x18, 0x3A]
  | .inx => [0x08]
  | .iny => [0x18, 0x08]
  | .dex => [0x09]
  | .dey => [0x18, 0x09]
  | .ins => [0x31]
  | .des => [0x34]
  | .mul => [0x3D]
  | .idiv => [0x02]
  | .fdiv => [0x03]
  | .anda (.imm ii) => [0x84, ii]
  | .anda (.mem (.dir dd)) => [0x94, dd]
  | .anda (.mem (.ext hl)) => [0xB4, hiByte hl, loByte hl]
  | .anda (.mem (.indx ff)) => [0xA4, ff]
  | .anda (.mem (.indy ff)) => [0x18, 0xA4, ff]
  | .andb (.imm ii) => [0xC4, ii]
  | .andb (.mem (.dir dd)) => [0xD4, dd]
  | .andb (.mem (.ext hl)) => [0xF4, hiByte hl, loByte hl]
  | .andb (.mem (.indx ff)) => [0xE4, ff]
  | .andb (.mem (.indy ff)) => [0x18, 0xE4, ff]
  | .eora (.imm ii) => [0x88, ii]
  | .eora (.mem (.dir dd)) => [0x98, dd]
  | .eora (.mem (.ext hl)) => [0xB8, hiByte hl, loByte hl]
  | .eora (.mem (.indx ff)) => [0xA8, ff]
  | .eora (.mem (.indy ff)) => [0x18, 0xA8, ff]
  | .eorb (.imm ii) => [0xC8, ii]
  | .eorb (.mem (.dir dd)) => [0xD8, dd]
  | .eorb (.mem (.ext hl)) => [0xF8, hiByte hl, loByte hl]
  | .eorb (.mem (.indx ff)) => [0xE8, ff]
  | .eorb (.mem (.indy ff)) => [0x18, 0xE8, ff]
  | .oraa (.imm ii) => [0x8A, ii]
  | .oraa (.mem (.dir dd)) => [0x9A, dd]
  | .oraa (.mem (.ext hl)) => [0xBA, hiByte hl, loByte hl]
  | .oraa (.mem (.indx ff)) => [0xAA, ff]
  | .oraa (.mem (.indy ff)) => [0x18, 0xAA, ff]
  | .orab (.imm ii) => [0xCA, ii]
  | .orab (.mem (.dir dd)) => [0xDA, dd]
  | .orab (.mem (.ext hl)) => [0xFA, hiByte hl, loByte hl]
  | .orab (.mem (.indx ff)) => [0xEA, ff]
  | .orab (.mem (.indy ff)) => [0x18, 0xEA, ff]
  | .bita (.imm ii) => [0x85, ii]
  | .bita (.mem (.dir dd)) => [0x95, dd]
  | .bita (.mem (.ext hl)) => [0xB5, hiByte hl, loByte hl]
  | .bita (.mem (.indx ff)) => [0xA5, ff]
  | .bita (.mem (.indy ff)) => [0x18, 0xA5, ff]
  | .bitb (.imm ii) => [0xC5, ii]
  | .bitb (.mem (.dir dd)) => [0xD5, dd]
  | .bitb (.mem (.ext hl)) => [0xF5, hiByte hl, loByte hl]
  | .bitb (.mem (.indx ff)) => [0xE5, ff]
  | .bitb (.mem (.indy ff)) => [0x18, 0xE5, ff]
  | .coma => [0x43]
  | .comb => [0x53]
  | .com (.ext hl) => [0x73, hiByte hl, loByte hl]
  | .com (.indx ff) => [0x63, ff]
  | .com (.indy ff) => [0x18, 0x63, ff]
  | .asla => [0x48]
  | .aslb => [0x58]
  | .asl (.ext hl) => [0x78, hiByte hl, loByte hl]
  | .asl (.indx ff) => [0x68, ff]
  | .asl (.indy ff) => [0x18, 0x68, ff]
  | .asra => [0x47]
  | .asrb => [0x57]
  | .asr (.ext hl) => [0x77, hiByte hl, loByte hl]
  | .asr (.indx ff) => [0x67, ff]
  | .asr (.indy ff) => [0x18, 0x67, ff]
  | .lsra => [0x44]
  | .lsrb => [0x54]
  | .lsr (.ext hl) => [0x74, hiByte hl, loByte hl]
  | .lsr (.indx ff) => [0x64, ff]
  | .lsr (.indy ff) => [0x18, 0x64, ff]
  | .rola => [0x49]
  | .rolb => [0x59]
  | .rol (.ext hl) => [0x79, hiByte hl, loByte hl]
  | .rol (.indx ff) => [0x69, ff]
  | .rol (.indy ff) => [0x18, 0x69, ff]
  | .rora => [0x46]
  | .rorb => [0x56]
  | .ror (.ext hl) => [0x76, hiByte hl, loByte hl]
  | .ror (.indx ff) => [0x66, ff]
  | .ror (.indy ff) => [0x18, 0x66, ff]
  | .asld => [0x05]
  | .lsrd => [0x04]
  | .bset (.dir dd) mm => [0x14, dd, mm]
  | .bset (.indx ff) mm => [0x1C, ff, mm]
  | .bset (.indy ff) mm => [0x18, 0x1C, ff, mm]
  | .bclr (.dir dd) mm => [0x15, dd, mm]
  | .bclr (.indx ff) mm => [0x1D, ff, mm]
  | .bclr (.indy ff) mm => [0x18, 0x1D, ff, mm]
  | .brset (.dir dd) mm rr => [0x12, dd, mm, rr]
  | .brset (.indx ff) mm rr => [0x1E, ff, mm, rr]
  | .brset (.indy ff) mm rr => [0x18, 0x1E, ff, mm, rr]
  | .brclr (.dir dd) mm rr => [0x13, dd, mm, rr]
  | .brclr (.indx ff) mm rr => [0x1F, ff, mm, rr]
  | .brclr (.indy ff) mm rr => [0x18, 0x1F, ff, mm, rr]
  | .bra rr => [0x20, rr]
  | .brn rr => [0x21, rr]
  | .bhi rr => [0x22, rr]
  | .bls rr => [0x23, rr]
  | .bcc rr => [0x24, rr]
  | .bcs rr => [0x25, rr]
  | .bne rr => [0x26, rr]
  | .beq rr => [0x27, rr]
  | .bvc rr => [0x28, rr]
  | .bvs rr => [0x29, rr]
  | .bpl rr => [0x2A, rr]
  | .bmi rr => [0x2B, rr]
  | .bge rr => [0x2C, rr]
  | .blt rr => [0x2D, rr]
  | .bgt rr => [0x2E, rr]
  | .ble rr => [0x2F, rr]
  | .bsr rr => [0x8D, rr]
  | .jmp (.ext hl) => [0x7E, hiByte hl, loByte hl]
  | .jmp (.indx ff) => [0x6E, ff]
  | .jmp (.indy ff) => [0x18, 0x6E, ff]
  | .jsr (.dir dd) => [0x9D, dd]
  | .jsr (.ext hl) => [0xBD, hiByte hl, loByte hl]
  | .jsr (.indx ff) => [0xAD, ff]
  | .jsr (.indy ff) => [0x18, 0xAD, ff]
  | .rts => [0x39]
  | .clc => [0x0C]
  | .sec => [0x0D]
  | .clv => [0x0A]
  | .sev => [0x0B]
  | .cli => [0x0E]
  | .sei => [0x0F]
  | .tap => [0x06]
  | .tpa => [0x07]
  | .nop => [0x01]
  | .swi => [0x3F]
  | .rti => [0x3B]
  | .wai => [0x3E]
  | .stop => [0xCF]
  | .invalid page op => prefixOfPage page ++ [op]
  | .prefixByte p => [p.byte]

/-- The length in bytes (30_encoding.md R73), which is also the disassembler's size (R97). -/
def Instr.length (i : Instr) : Nat := (encode i).length

/-- Why a list of bytes is rejected. -/
inductive DecodeError where
  /-- The list ends before the instruction its bytes begin. Raised by `decode` on a short list only: memory never ends
  (addresses wrap), so no step meets it. Safe. -/
  | truncated
  deriving DecidableEq, Repr

/-- The instruction at the head of a list of bytes and the bytes after it. -/
def decode (bs : List Byte) : Except DecodeError (Instr × List Byte) :=
  let i := decodeStream fun n => bs.getD n 0
  if i.length ≤ bs.length then .ok (i, bs.drop i.length) else .error .truncated

/-- The first five bytes, in address order, of an instruction given as a number as spec/opcode_table.json numbers it: the
first byte in bits 7..0 and later bytes counting on, but for a prefixed row, whose `match` has the prefix in bits 15..8 and
the opcode in bits 7..0. Bits from `nbits` up are zero. Log entry 13. -/
def tableBytes (nbits w : Nat) : List Byte :=
  let at' (k : Nat) : Byte := BitVec.ofNat 8 (w % 2 ^ nbits / 2 ^ (8 * k))
  if 16 ≤ nbits ∧ isPrefixByte (at' 1) = true then [at' 1, at' 0, at' 2, at' 3, at' 4]
  else [at' 0, at' 1, at' 2, at' 3, at' 4]

/-- What the decoder reads from an instruction given as the opcode table numbers it. -/
def decodeTableWord (nbits w : Nat) : Option Instr :=
  match decode (tableBytes nbits w) with
  | .ok (i, _) => some i
  | .error _ => none

end Sys2Proof
end

