-- ==== Sys2Proof/Machine/Fetch.lean ====
section
/-! DEFINITION. Fetching an instruction's bytes (20_memory.md R51, R54), the start of a step and its cycle charge (30_encoding.md
R86, 70_reset_and_hazards.md R269), the idle step (60_exceptions.md R257). All of an instruction's bytes are fetched before any
data access (20_memory.md R60), so PC passes the whole instruction before its meaning runs. -/

namespace Sys2Proof.Machine

open Sys2Proof

/-- The n-th byte of the instruction at PC: `FetchRead` tells no observer (20_memory.md R51). -/
def instrByte (s : State) (n : Nat) : Byte := s.byteAt (s.pc + BitVec.ofNat 16 n)

/-- The instruction at PC (30_encoding.md R86). -/
def fetchInstr (s : State) : Instr := decodeStream (instrByte s)

/-- The Fetch transactions of the first `len` bytes at PC (20_memory.md R65); `instr_addr` is the instruction's address. -/
def fetchEvents (len : Nat) (s : State) : List Event :=
  (List.range len).map fun n => .bus .fetch (s.pc + BitVec.ofNat 16 n) (instrByte s n) s.pc

/-- The start of a step that runs `i`: last_pc is recorded, the step's events begin with its fetches, and PC passes the
instruction's bytes (30_encoding.md R86, 10_state.md R21, R22). -/
def beginInstr (i : Instr) (s : State) : State :=
  ((s.setLastPc s.pc).setBus { s.bus with events := fetchEvents i.length s }).setPc (s.pc + BitVec.ofNat 16 i.length)

/-- The page and opcode of an instruction's bytes; none for a prefix byte by itself. -/
def opcodeKey : List Byte → Option (Page × Byte)
  | [] => none
  | b :: rest =>
    match pageOfPrefix b with
    | none => some (.p1, b)
    | some p => rest.head?.map fun op => (p, op)

/-- The cycles an instruction charges: `CYCLE_TABLE(page, op)`, or `INVALID_OPCODE_CYCLES(page)` for an unmapped opcode
(70_reset_and_hazards.md R269, log entries 5 and 6); a prefix byte charges none of its own (30_encoding.md R84). -/
def cyclesOf (i : Instr) : Nat :=
  match opcodeKey (encode i) with
  | none => 0
  | some (page, op) =>
    match lookup page op with
    | some r => r.cycles
    | none => Config.invalidOpcodeCycles page

/-- The charge at a step's end, modulo 2^64 (10_state.md R43). -/
def chargeCycles (i : Instr) (s : State) : State := s.setCycles (s.cycles + BitVec.ofNat 64 (cyclesOf i))

/-- The step of a waiting or stopped core (60_exceptions.md R257): last_pc and one cycle; no event. -/
def idleStep (s : State) : State :=
  ((s.setLastPc s.pc).setCycles (s.cycles + 1)).setBus { s.bus with events := [] }

end Sys2Proof.Machine
end

