-- ==== Sys2Proof/Machine/HostInterface.lean ====
section
/-! DEFINITION. What the host can do between steps: reset and loading (70_reset_and_hazards.md R259 to R265), the silent memory
paths (20_memory.md R52), the trap registry (R63), the breakpoint handler (60_exceptions.md R252 to R254), the display
observers (70 R266), the disassembler's size (30_encoding.md R97). -/

namespace Sys2Proof.Machine

open Sys2Proof

/-! ## Reset, loading and getters -/

/-- `RESET_REG_VALUES` and the other draws of a reset (70 R259): any values. -/
structure ResetDraws where
  a : Byte
  b : Byte
  x : Word
  y : Word
  sp : Word
  /-- PC when the host is its source: unspecified until setPC. -/
  pc : Word
  lastPc : Word
  deriving DecidableEq, Repr

/-- The reset vector's address (20_memory.md R61). -/
def resetVector : Word := 0xFFFE

/-- `reset()` (70 R259): memory is not changed; the vector is read silently. Log entry 2 for the parameters. -/
def hostReset (src : ResetPcSource) (r : ResetDraws) (s : State) : State :=
  { s with
    a := r.a
    b := r.b
    x := r.x
    y := r.y
    sp := r.sp
    ccr := 0x90
    cycles := 0
    status := .running
    lastPc := r.lastPc
    pc :=
      match src with
      | .vector => s.wordAt resetVector
      | .host => r.pc }

/-- `writeSilent(addr, v)` (20_memory.md R52). -/
def writeSilent (addr : Word) (v : Byte) (s : State) : State := s.storeSilent addr v

/-- `writeMemBlock(addr, bytes)` (70 R262): in order, silently, addresses modulo 65536. -/
def writeMemBlock : Word → List Byte → State → State
  | _, [], s => s
  | addr, v :: rest, s => writeMemBlock (addr + 1) rest (writeSilent addr v s)

/-- `setPC(addr)` (70 R263): nothing else changes, status included. -/
def setPC (addr : Word) (s : State) : State := s.setPc addr

/-- `readSilent(addr)` (20_memory.md R52, 70 R265). -/
def readSilent (addr : Word) (s : State) : Byte := s.byteAt addr

/-- `readSignedSilent(addr)` (20_memory.md R52). -/
def readSignedSilent (addr : Word) (s : State) : Int := (s.byteAt addr).toInt

/-- `getCycles()` (70 R265). -/
def getCycles (s : State) : BitVec 64 := s.cycles

/-- `getPC()` (70 R265). -/
def getPC (s : State) : Word := s.pc

/-- The disassembler's size at an address (30_encoding.md R97): the length of the instruction there. -/
def disassembleSize (addr : Word) (s : State) : Nat :=
  (decodeStream fun n => s.byteAt (addr + BitVec.ofNat 16 n)).length

/-! ## The trap registry -/

/-- `addTrap(addr, obs)` (20_memory.md R63): appended. -/
def addTrap (addr : Word) (obs : Observer) (s : State) : State :=
  s.setBus { s.bus with traps := s.bus.traps ++ [⟨addr, obs⟩] }

/-- Remove an entry by (address, observer) pair (20_memory.md R63): the first such entry. Log entry 11. -/
def removeTrap (addr : Word) (obs : Observer) (s : State) : State :=
  s.setBus { s.bus with traps := s.bus.traps.erase ⟨addr, obs⟩ }

/-- Remove every entry of an observer (20_memory.md R63). -/
def removeTrapsOf (obs : Observer) (s : State) : State :=
  s.setBus { s.bus with traps := s.bus.traps.filter fun e => e.observer != obs }

/-- Remove every entry of an address (20_memory.md R63). -/
def removeTrapsAt (addr : Word) (s : State) : State :=
  s.setBus { s.bus with traps := s.bus.traps.filter fun e => e.addr != addr }

/-! ## The breakpoint handler -/

/-- `addExecBreak(a)` (60_exceptions.md R252): the execute set only. -/
def addExecBreak (a : Word) (s : State) : State :=
  if s.bus.execBreaks.contains a then s
  else s.setBus { s.bus with execBreaks := s.bus.execBreaks ++ [a] }

/-- `removeExecBreak(a)` (60_exceptions.md R252). -/
def removeExecBreak (a : Word) (s : State) : State :=
  s.setBus { s.bus with execBreaks := s.bus.execBreaks.erase a }

/-- `addReadBreak(a)` (60_exceptions.md R252): the read set and a trap entry; a duplicate changes nothing. -/
def addReadBreak (a : Word) (s : State) : State :=
  if s.bus.readBreaks.contains a then s
  else addTrap a .breakpoints (s.setBus { s.bus with readBreaks := s.bus.readBreaks ++ [a] })

/-- Remove a read breakpoint and its trap entry (60_exceptions.md R252). -/
def removeReadBreak (a : Word) (s : State) : State :=
  if s.bus.readBreaks.contains a then
    removeTrap a .breakpoints (s.setBus { s.bus with readBreaks := s.bus.readBreaks.erase a })
  else s

/-- `addWriteBreak(a)` (60_exceptions.md R252). -/
def addWriteBreak (a : Word) (s : State) : State :=
  if s.bus.writeBreaks.contains a then s
  else addTrap a .breakpoints (s.setBus { s.bus with writeBreaks := s.bus.writeBreaks ++ [a] })

/-- Remove a write breakpoint and its trap entry (60_exceptions.md R252). -/
def removeWriteBreak (a : Word) (s : State) : State :=
  if s.bus.writeBreaks.contains a then
    removeTrap a .breakpoints (s.setBus { s.bus with writeBreaks := s.bus.writeBreaks.erase a })
  else s

/-- `checkAfterStep()` (60_exceptions.md R254): the address halted at, or none (the spec's false). The latch comes first and
is cleared; only then is the execute set scanned against PC. -/
def checkAfterStep (s : State) : Option Word × State :=
  match s.bus.pending with
  | some p => (some p, s.setBus { s.bus with pending := none })
  | none => if s.bus.execBreaks.contains s.pc then (some s.pc, s) else (none, s)

/-! ## Display observers (70 R266): not core state -/

/-- A display observer: its name, and how often `visualUpdate()` has been called on it. What it draws is its own. -/
structure Display where
  name : String
  updates : Nat
  deriving DecidableEq, Repr

/-- The registered display observers, in registration order. -/
abbrev Displays := List Display

/-- `getName()` (70 R266). -/
def Display.getName (d : Display) : String := d.name

/-- `visualUpdate()` (70 R266). -/
def Display.visualUpdate (d : Display) : Display := { d with updates := d.updates + 1 }

/-- Two names are one but for the case of their letters (70 R266). The spec does not say of which letters: `toLower` folds ASCII A
to Z and no others. DESIGN CHOICE, log entry 15. -/
def sameName (n m : String) : Bool := n.toLower == m.toLower

/-- `addObserver(obs)`: a duplicate name is a no-op that reports failure (70 R266). -/
def addObserver (obs : Display) (reg : Displays) : Bool × Displays :=
  if reg.any fun d => sameName obs.getName d.getName then (false, reg) else (true, reg ++ [obs])

/-- `removeObserver(obs)` (70 R266): registration is keyed by the name. Log entry 15. -/
def removeObserver (obs : Display) (reg : Displays) : Displays :=
  reg.filter fun d => !sameName obs.getName d.getName

/-- `visualUpdate()` on every registered observer (70 R266). -/
def visualUpdateAll (reg : Displays) : Displays := reg.map Display.visualUpdate

end Sys2Proof.Machine
end

