-- ==== Sys2Proof/Machine/Step.lean ====
section
/-! DEFINITION. One step (30_encoding.md R86), and a state whose next step runs a given instruction. -/

namespace Sys2Proof.Machine

open Sys2Proof

/-- `step()` (30_encoding.md R86): an idle step unless Running (60_exceptions.md R257); otherwise the instruction at PC. -/
def step (s : State) : Host.Outcome State Fault Refusal :=
  if s.status = .running then
    match exec (fetchInstr s) (beginInstr (fetchInstr s) s) with
    | .next t => .next (chargeCycles (fetchInstr s) t)
    | .fault r => .fault r
    | .refused r => .refused r
  else .next (idleStep s)

/-- The state with an instruction, given as the opcode table numbers it, in the five bytes at PC, and Running, so that the next
step runs it: what a loader's writeMemBlock does (70_reset_and_hazards.md R261, R262; log entries 13 and 14). -/
def State.withFetchWord (s : State) (nbits w : Nat) : State :=
  (writeMemBlock s.pc (tableBytes nbits w) s).setStatus .running

end Sys2Proof.Machine
end

