-- ==== Sys2Proof/Machine/Pacing.lean ====
section
/-! DEFINITION. The pacing loop's contract with the core (70_reset_and_hazards.md R267): slices of polled steps within a cycle
budget, the display callback after each slice, the run flag between slices. Wall-clock sleeping is the host's. Log entry 15. -/

namespace Sys2Proof.Machine

/-! ## A slice -/

/-- The default clock rate in Hz (70 R267). -/
def defaultClockRate : Nat := 2000000

/-- The default refresh rate in Hz (70 R267). -/
def defaultRefreshRate : Nat := 30

/-- The cycle budget of a slice: clock rate over refresh rate, rounded up (70 R267, log entry 15). -/
def sliceBudget (clock refresh : Nat) : Nat := (clock + refresh - 1) / refresh

/-- Why a slice ended (60_exceptions.md R258). -/
inductive SliceEnd where
  /-- The cycles charged reached or passed the budget. -/
  | budget
  /-- The poll after a step reported a halt at this address (60_exceptions.md R254). -/
  | halted (addr : Word)
  /-- The host's own bound on the number of steps was reached first. -/
  | stepBound
  deriving DecidableEq, Repr

/-- A step and the host's poll after it (60_exceptions.md R254): the address halted at, or none. -/
def polledStep (s : State) : Host.Outcome (Option Word × State) Fault Refusal :=
  match step s with
  | .next t => .next (checkAfterStep t)
  | .fault r => .fault r
  | .refused r => .refused r

/-- A slice: at most `bound` polled steps, ending after the step that reaches or passes the budget; a step is never split (70
R267). The spec gives the slice its budget only, and says that a halted core is not stepped (60_exceptions.md R254): that a
halt ends the slice at once is DESIGN CHOICE, log entry 15. -/
def runSlice : Nat → Nat → State → Host.Outcome (SliceEnd × State) Fault Refusal
  | 0, budget, s => .next (if budget = 0 then .budget else .stepBound, s)
  | bound + 1, budget, s =>
    if budget = 0 then .next (.budget, s)
    else
      match polledStep s with
      | .next (some p, t) => .next (.halted p, t)
      | .next (none, t) => runSlice bound (budget - (t.cycles - s.cycles).toNat) t
      | .fault r => .fault r
      | .refused r => .refused r

/-! ## The loop of slices -/

/-- The pacing controller with the core it drives. Nothing of it but `core` is core state (70 R266). -/
structure Pacer where
  /-- The clock rate in Hz. -/
  clock : Nat := defaultClockRate
  /-- The target refresh rate in Hz. -/
  refresh : Nat := defaultRefreshRate
  /-- The most steps a slice may take (60_exceptions.md R258). -/
  bound : Nat
  /-- The display observers. -/
  displays : Displays
  /-- Where a breakpoint has halted the core, until the host resumes it (60_exceptions.md R254). -/
  halt : Option Word
  /-- The core. -/
  core : State
  deriving DecidableEq, Repr

/-- The halt a slice leaves. -/
def SliceEnd.halt : SliceEnd → Option Word
  | .halted p => some p
  | .budget => none
  | .stepBound => none

/-- The host resumes a halted core (60_exceptions.md R254). -/
def Pacer.resume (p : Pacer) : Pacer := { p with halt := none }

/-- One turn of the loop: with the run flag set and the core not halted, a slice and then `visualUpdate()` on every display
observer, once (70 R266, R267); otherwise nothing. The flag is read before a slice, so clearing it takes effect at the slice's
boundary. -/
def Pacer.turn (runFlag : Bool) (p : Pacer) : Host.Outcome Pacer Fault Refusal :=
  if runFlag = true ∧ p.halt = none then
    match runSlice p.bound (sliceBudget p.clock p.refresh) p.core with
    | .next (e, s) => .next { p with core := s, displays := visualUpdateAll p.displays, halt := e.halt }
    | .fault r => .fault r
    | .refused r => .refused r
  else .next p

/-- The loop, given what it reads of the run flag at each slice boundary: the flag is another thread's (70 R267). -/
def Pacer.run : List Bool → Pacer → Host.Outcome Pacer Fault Refusal
  | [], p => .next p
  | runFlag :: rest, p =>
    match p.turn runFlag with
    | .next q => q.run rest
    | .fault r => .fault r
    | .refused r => .refused r

end Sys2Proof.Machine
end

