-- ==== Sys2Proof/Safety.lean ====
section
/-! DEFINITION. The language of the claims: a good state, a finished run, an unchanged part of the state, the operand an
instruction reads, and the flags a result sets, written with integers from the spec's words and not from the model's own flag
functions. -/

namespace Sys2Proof.Machine

open Sys2Proof

/-- The invariant of the machine: the memory keeps its canonical form (20_memory.md R47). -/
def State.Inv (s : State) : Prop := s.mem.wf = true

/-- X is clear, as it is throughout every run (10_state.md R26). -/
def State.xClear (s : State) : Prop := s.flag .x = false

/-- The end of a run, for a model that needs one (60_exceptions.md R258). -/
def State.ended (s : State) : Prop := s.status ≠ .running

/-! ## Frames -/

/-- The parts of the state a frame speaks of: every register, every flag by itself, all of memory, the host's configuration of
the bus, the count of free values. The events of the step and the breakpoint latch are not among them. -/
inductive Part where
  | a | b | x | y | sp | pc | cycles | lastPc | status | mem | hostConfig | freeCount
  | flag (f : Flag)
  deriving DecidableEq, Repr

/-- The part is the same in both states; memory is compared byte by byte through a read. -/
def Part.same (s t : State) : Part → Prop
  | .a => t.a = s.a
  | .b => t.b = s.b
  | .x => t.x = s.x
  | .y => t.y = s.y
  | .sp => t.sp = s.sp
  | .pc => t.pc = s.pc
  | .cycles => t.cycles = s.cycles
  | .lastPc => t.lastPc = s.lastPc
  | .status => t.status = s.status
  | .mem => ∀ addr : Word, t.byteAt addr = s.byteAt addr
  | .hostConfig => t.bus.config = s.bus.config
  | .freeCount => t.freeCount = s.freeCount
  | .flag f => t.flag f = s.flag f

/-- Every part but the listed ones is the same in both states. -/
def OnlyChanges (parts : List Part) (s t : State) : Prop := ∀ p : Part, p ∉ parts → p.same s t

/-- Every byte outside the listed addresses reads as before. -/
def MemOnlyAt (addrs : List Word) (s t : State) : Prop := ∀ addr : Word, addr ∉ addrs → t.byteAt addr = s.byteAt addr

/-- The parts N, Z and V. -/
def partsNzv : List Part := [.flag .n, .flag .z, .flag .v]

/-- The parts N, Z, V and C. -/
def partsNzvc : List Part := [.flag .n, .flag .z, .flag .v, .flag .c]

/-! ## Operands -/

/-- The value of an 8-bit operand: the immediate, or the byte at its address (30_encoding.md R83). -/
def operand8 (o : Opnd8) (s : State) : Byte :=
  match o with
  | .imm ii => ii
  | .mem m => s.byteAt (ea m s)

/-- The value of a 16-bit operand: the immediate, or the big-endian word at its address (30_encoding.md R83). -/
def operand16 (o : Opnd16) (s : State) : Word :=
  match o with
  | .imm jjkk => jjkk
  | .mem m => s.wordAt (ea m s)

/-! ## Results and the flags they set -/

/-- `a + m + k` modulo 256. -/
def sum8 (a m : Byte) (k : Bool) : Byte := a + m + BitVec.ofNat 8 k.toNat

/-- `a - m - k` modulo 256. -/
def difference8 (a m : Byte) (k : Bool) : Byte := a - m - BitVec.ofNat 8 k.toNat

/-- A number outside the signed range of a byte. -/
def outOfRange8 (n : Int) : Bool := decide (n < -128 ∨ 127 < n)

/-- A number outside the signed range of a word. -/
def outOfRange16 (n : Int) : Bool := decide (n < -32768 ∨ 32767 < n)

/-- N and Z of an 8-bit result (10_state.md R35). -/
def SetsNz8 (r : Byte) (t : State) : Prop := t.flag .n = decide (128 ≤ r.toNat) ∧ t.flag .z = decide (r.toNat = 0)

/-- N and Z of a 16-bit result (10_state.md R36). -/
def SetsNz16 (r : Word) (t : State) : Prop := t.flag .n = decide (32768 ≤ r.toNat) ∧ t.flag .z = decide (r.toNat = 0)

/-- N, Z and a cleared V (10_state.md R41). -/
def SetsLogic8 (r : Byte) (t : State) : Prop := SetsNz8 r t ∧ t.flag .v = false

/-- N, Z and a cleared V (10_state.md R41). -/
def SetsLogic16 (r : Word) (t : State) : Prop := SetsNz16 r t ∧ t.flag .v = false

/-- H, N, Z, V and C of an 8-bit addition: V as the signed sum out of range (10_state.md R37). -/
def SetsAdd8 (a m : Byte) (k : Bool) (t : State) : Prop :=
  SetsNz8 (sum8 a m k) t ∧ t.flag .h = decide (15 < a.toNat % 16 + m.toNat % 16 + k.toNat) ∧
    t.flag .v = outOfRange8 (a.toInt + m.toInt + k.toNat) ∧ t.flag .c = decide (255 < a.toNat + m.toNat + k.toNat)

/-- N, Z, V and C of an 8-bit subtraction: V as the signed difference out of range, C as the borrow (10_state.md R38). -/
def SetsSub8 (a m : Byte) (k : Bool) (t : State) : Prop :=
  SetsNz8 (difference8 a m k) t ∧ t.flag .v = outOfRange8 (a.toInt - m.toInt - k.toNat) ∧
    t.flag .c = decide (a.toNat < m.toNat + k.toNat)

/-- N, Z, V and C of a 16-bit addition (10_state.md R39). -/
def SetsAdd16 (a m : Word) (t : State) : Prop :=
  SetsNz16 (a + m) t ∧ t.flag .v = outOfRange16 (a.toInt + m.toInt) ∧ t.flag .c = decide (65535 < a.toNat + m.toNat)

/-- N, Z, V and C of a 16-bit subtraction (10_state.md R40). -/
def SetsSub16 (a m : Word) (t : State) : Prop :=
  SetsNz16 (a - m) t ∧ t.flag .v = outOfRange16 (a.toInt - m.toInt) ∧ t.flag .c = decide (a.toNat < m.toNat)

/-- N, Z, V and C of an 8-bit shift or rotate whose result is r and whose bit shifted out is co (10_state.md R42). -/
def SetsShift8 (r : Byte) (co : Bool) (t : State) : Prop :=
  SetsNz8 r t ∧ t.flag .c = co ∧ t.flag .v = (t.flag .n ^^ t.flag .c)

/-- N, Z, V and C of a 16-bit shift (10_state.md R42). -/
def SetsShift16 (r : Word) (co : Bool) (t : State) : Prop :=
  SetsNz16 r t ∧ t.flag .c = co ∧ t.flag .v = (t.flag .n ^^ t.flag .c)

/-! ## Shapes of instruction: each says that the instruction COMPLETES (exec answers a next state), what it writes, and that it
changes nothing else -/

/-- A pair of instructions on A and on B with one operand: the accumulator becomes `result` of its old value and the operand,
`flags` of the two hold after, and only the accumulator and `parts` change. -/
def UpdatesAccumulator (onA onB : Opnd8 → Instr) (s : State) (result : Byte → Byte → Byte) (flags : Byte → Byte → State → Prop)
    (parts : List Part) : Prop :=
  ∀ o : Opnd8,
    (∃ t, exec (onA o) s = .next t ∧ t.a = result s.a (operand8 o s) ∧ flags s.a (operand8 o s) t ∧
      OnlyChanges (.a :: parts) s t) ∧
    (∃ t, exec (onB o) s = .next t ∧ t.b = result s.b (operand8 o s) ∧ flags s.b (operand8 o s) t ∧
      OnlyChanges (.b :: parts) s t)

/-- A pair of instructions that only sets `flags` of A (of B) and one operand. -/
def TestsAccumulator (onA onB : Opnd8 → Instr) (s : State) (flags : Byte → Byte → State → Prop) (parts : List Part) : Prop :=
  ∀ o : Opnd8,
    (∃ t, exec (onA o) s = .next t ∧ flags s.a (operand8 o s) t ∧ OnlyChanges parts s t) ∧
    (∃ t, exec (onB o) s = .next t ∧ flags s.b (operand8 o s) t ∧ OnlyChanges parts s t)

/-- The three forms of a read-modify-write operation: on A, on B and on the byte at EA, whose address is computed here. -/
def ModifiesByte (onA onB : Instr) (onMem : EaNoDir → Instr) (s : State) (result : Byte → Byte) (flags : Byte → State → Prop)
    (parts : List Part) : Prop :=
  (∃ t, exec onA s = .next t ∧ t.a = result s.a ∧ flags s.a t ∧ OnlyChanges (.a :: parts) s t) ∧
  (∃ t, exec onB s = .next t ∧ t.b = result s.b ∧ flags s.b t ∧ OnlyChanges (.b :: parts) s t) ∧
  (∀ m : EaNoDir, ∃ t, exec (onMem m) s = .next t ∧
    t.byteAt (ea m.toEa s) = result (s.byteAt (ea m.toEa s)) ∧ flags (s.byteAt (ea m.toEa s)) t ∧
    OnlyChanges (.mem :: parts) s t ∧ MemOnlyAt [ea m.toEa s] s t)

/-- A branch: it completes, PC becomes the next instruction's address plus the signed offset, modulo 65536, if `taken`, and
nothing changes otherwise (30_encoding.md R82). -/
def Branches (i : Byte → Instr) (s : State) (taken : Bool) : Prop :=
  ∀ rr : Byte, ∃ t, exec (i rr) s = .next t ∧
    (t.pc.toNat : Int) = (if taken then (s.pc.toNat + rr.toInt) % 65536 else s.pc.toNat) ∧ OnlyChanges [.pc] s t

/-! ## Events -/

/-- The bytes that the write transactions among some events store at an address, oldest first (20_memory.md R65). -/
def writesTo (addr : Word) (es : List Event) : List Byte :=
  es.filterMap fun e =>
    match e with
    | .bus .write p v _ => if p = addr then some v else none
    | _ => none

/-- An event after the fetches of the step of the instruction at `instrAddr`: a data access or a notification that carries that
address, or the diagnostic of an instruction that is unmapped (20_memory.md R65, 30_encoding.md R87). -/
def dataEventOf (i : Instr) (instrAddr : Word) (e : Event) : Prop :=
  match e with
  | .bus kind _ _ p => kind ≠ .fetch ∧ p = instrAddr
  | .trap kind _ _ p => kind ≠ .fetch ∧ p = instrAddr
  | .invalidOpcode page op _ p => p = instrAddr ∧ i = .invalid page op

/-! ## Runs of polled steps -/

/-- The state after a step and the poll after it (60_exceptions.md R254). -/
def afterPoll (s : State) : State :=
  match polledStep s with
  | .next r => r.2
  | .fault _ => s
  | .refused _ => s

/-- The halt that poll reports. -/
def haltAfter (s : State) : Option Word :=
  match polledStep s with
  | .next r => r.1
  | .fault _ => none
  | .refused _ => none

/-- The state after k polled steps. -/
def polledSteps : Nat → State → State
  | 0, s => s
  | k + 1, s => polledSteps k (afterPoll s)

/-- The cycles k polled steps charge (70_reset_and_hazards.md R269). -/
def charged : Nat → State → Nat
  | 0, _ => 0
  | k + 1, s => ((afterPoll s).cycles - s.cycles).toNat + charged k (afterPoll s)

/-! ## Packed decimal -/

/-- The packed-decimal byte of a number below 100 (41_arithmetic.md R159). -/
def bcd (n : Nat) : Byte := BitVec.ofNat 8 (n / 10 * 16 + n % 10)

end Sys2Proof.Machine
end

