-- ==== Sys2Proof/Certificates/Slice0/Obligations.lean ====
section
/-! DEFINITION. The statements for the provers. Each docstring names the rule of spec/ it formalises. -/

open Sys2Proof Sys2Proof.Machine

/-! ## Encoding -/

/-- Every instruction the decoder can give is read back whole from its own bytes, whatever bytes follow, with every operand
at every value (30_encoding.md R72, R73, R91 to R94; the Encoding lines of files 40 to 45). -/
def Obligations.DecodeEncodeRoundTrip : Prop :=
  ∀ (i : Instr) (rest : List Byte), i.wf = true → decode (encode i ++ rest) = .ok (i, rest)

/-- What the decoder reads is well formed and its bytes are exactly those the decoder consumed (30_encoding.md R71, R84). -/
def Obligations.DecodeConsumesExactlyTheEncoding : Prop :=
  ∀ (bs rest : List Byte) (i : Instr), decode bs = .ok (i, rest) →
    i.wf = true ∧ bs = encode i ++ rest ∧ 1 ≤ i.length ∧ i.length ≤ 5

/-- Words written out from the spec's encodings, one or more of every family. -/
def Obligations.SampleWordsDecode : Prop :=
  decode [0x86, 0x05] = .ok (.ldaa (.imm 0x05), []) ∧
  decode [0x18, 0xA6, 0x7F] = .ok (.ldaa (.mem (.indy 0x7F)), []) ∧
  decode [0x1A, 0xEF, 0x02] = .ok (.sty (.indx 0x02), []) ∧
  decode [0xCD, 0xA3, 0x03] = .ok (.cpd (.mem (.indy 0x03)), []) ∧
  decode [0xC3, 0x12, 0x34] = .ok (.addd (.imm 0x1234), []) ∧
  decode [0x79, 0x12, 0x34] = .ok (.rol (.ext 0x1234), []) ∧
  decode [0x14, 0x10, 0x0F] = .ok (.bset (.dir 0x10) 0x0F, []) ∧
  decode [0x18, 0x1F, 0x01, 0xF0, 0xFB] = .ok (.brclr (.indy 0x01) 0xF0 0xFB, []) ∧
  decode [0x20, 0xFE, 0x01] = .ok (.bra 0xFE, [0x01]) ∧
  decode [0xBD, 0x80, 0x00] = .ok (.jsr (.ext 0x8000), []) ∧
  decode [0x3F] = .ok (.swi, []) ∧
  decode [0x41] = .ok (.invalid .p1 0x41, [])

/-- The unmapped bytes: the 21 of page 1, and 192, 249 and 252 on pages 2 to 4; each decodes to the unmapped opcode of its page
(30_encoding.md R88). -/
def Obligations.UnmappedOpcodesDecode : Prop :=
  (∀ op : Byte, unmapped .p1 op = true ↔
    op ∈ ([0x00, 0x41, 0x42, 0x45, 0x4B, 0x4E, 0x51, 0x52, 0x55, 0x5B, 0x5E, 0x61, 0x62, 0x65, 0x6B, 0x71, 0x72, 0x75, 0x7B,
      0x87, 0xC7] : List Byte)) ∧
  ((List.range 256).map (BitVec.ofNat 8)).countP (fun op => unmapped .p2 op) = 192 ∧
  ((List.range 256).map (BitVec.ofNat 8)).countP (fun op => unmapped .p3 op) = 249 ∧
  ((List.range 256).map (BitVec.ofNat 8)).countP (fun op => unmapped .p4 op) = 252 ∧
  (∀ (page : Page) (op : Byte) (rest : List Byte), unmapped page op = true →
    decode (prefixOfPage page ++ op :: rest) = .ok (.invalid page op, rest))

/-- A prefix byte in second position is an unmapped opcode of the page the first selects, and the next instruction starts after
it (30_encoding.md R85, the spec's own inference from R84 and R87). -/
def Obligations.PrefixInSecondPosition : Prop :=
  ∀ (p q : PrefixByte) (rest : List Byte), ∃ page, pageOfPrefix p.byte = some page ∧
    decode (p.byte :: q.byte :: rest) = .ok (.invalid page q.byte, rest)

/-! ## The step -/

/-- When the bytes at PC are those of a well-formed instruction, a step of a running core is that instruction's exec at the
state with last_pc recorded, PC past its bytes and the fetches as the step's first events (log entries 10 and 16); then the
cycles are charged (30_encoding.md R86, 10_state.md R21, R22, R43). -/
def Obligations.StepRunsDecodedInstruction : Prop :=
  ∀ (s : State) (i : Instr), s.status = .running → i.wf = true →
    (∀ (n : Nat) (h : n < (encode i).length), s.byteAt (s.pc + BitVec.ofNat 16 n) = (encode i)[n]) →
    step s =
      match exec i
          { s with
            lastPc := s.pc
            pc := s.pc + BitVec.ofNat 16 (encode i).length
            bus := { s.bus with events := fetchEvents (encode i).length s } } with
      | .next t => .next { t with cycles := t.cycles + BitVec.ofNat 64 (cyclesOf i) }
      | .fault r => .fault r
      | .refused r => .refused r

/-- Every step of a core in any state is defined: it never fails (70_reset_and_hazards.md R264, 60_exceptions.md R237 and
R238, the latter the spec's own inference). -/
def Obligations.StepNeverFails : Prop :=
  ∀ s : State, ∃ t, step s = .next t

/-- The idle step (60_exceptions.md R257): last_pc, one cycle, and nothing else; no event. -/
def Obligations.IdleStep : Prop :=
  ∀ s : State, s.status ≠ .running →
    step s = .next { s with lastPc := s.pc, cycles := s.cycles + 1, bus := { s.bus with events := [] } }

/-- A running step records last_pc and adds the instruction's cycles and nothing more, whatever it does (10_state.md R22, R43,
70_reset_and_hazards.md R269). -/
def Obligations.StepRecordsAddressAndCharge : Prop :=
  ∀ s t : State, s.status = .running → step s = .next t →
    t.lastPc = s.pc ∧ t.cycles = s.cycles + BitVec.ofNat 64 (cyclesOf (fetchInstr s))

/-- Only wai, and stop with S = 0, end the running state (10_state.md R44, 60_exceptions.md R256). -/
def Obligations.StatusTransitions : Prop :=
  ∀ s t : State, step s = .next t →
    t.status =
      (if s.status = .running then
        (if fetchInstr s = .wai then .waiting else if fetchInstr s = .stop ∧ s.flag .s = false then .stopped else .running)
      else s.status)

/-- X can go from 1 to 0, by tap or rti, and never from 0 to 1; reset leaves it 0, so it is 0 throughout every run
(10_state.md R26, the spec's own inference from R24, R25 and R16). -/
def Obligations.XIsNeverSet : Prop :=
  State.reset.xClear ∧
  (∀ s t : State, s.xClear → step s = .next t → t.xClear) ∧
  (∀ s t : State, s.status = .running → step s = .next t → t.flag .x ≠ s.flag .x →
    s.flag .x = true ∧ t.flag .x = false ∧ (fetchInstr s = .tap ∨ fetchInstr s = .rti))

/-- H, I and S are written by no instructions but those the spec names (10_state.md R31, R32, R34). -/
def Obligations.StatusBitWriters : Prop :=
  ∀ (i : Instr) (s t : State), exec i s = .next t →
    (t.flag .h = s.flag .h ∨
      (∃ o, i = .adda o ∨ i = .addb o ∨ i = .adca o ∨ i = .adcb o) ∨ i = .aba ∨ i = .tap ∨ i = .rti) ∧
    (t.flag .i = s.flag .i ∨ i = .sei ∨ i = .cli ∨ i = .swi ∨ i = .tap ∨ i = .rti) ∧
    (t.flag .s = s.flag .s ∨ i = .tap ∨ i = .rti)

/-- What reset leaves (70_reset_and_hazards.md R259): CCR 0x90, cycles 0, Running; the other registers as drawn; PC from the
vector or from the host; memory as it was. That the bus and the count of free values are kept too is the model's choice (log
entry 16). -/
def Obligations.ResetLeaves : Prop :=
  (∀ (src : ResetPcSource) (r : ResetDraws) (s : State),
    hostReset src r s =
      { s with
        a := r.a, b := r.b, x := r.x, y := r.y, sp := r.sp, lastPc := r.lastPc
        ccr := 0x90
        cycles := 0
        status := .running
        pc :=
          match src with
          | .vector => joinBytes (s.byteAt 0xFFFE) (s.byteAt 0xFFFF)
          | .host => r.pc }) ∧
  State.reset.ccr = 0x90 ∧ State.reset.cycles = 0 ∧ State.reset.status = .running

/-- The memory keeps its canonical form through every step (20_memory.md R47; the form is the model's own, log entry 4). -/
def Obligations.StepKeepsInvariant : Prop :=
  ∀ s t : State, s.Inv → step s = .next t → t.Inv

/-- The state after reset has the canonical form (the model's own, log entry 4). -/
def Obligations.ResetInvariant : Prop :=
  State.reset.Inv

/-- No step changes the trap registry or the breakpoint sets (20_memory.md R63, 60_exceptions.md R251). -/
def Obligations.StepKeepsHostConfiguration : Prop :=
  ∀ s t : State, step s = .next t →
    t.bus.traps = s.bus.traps ∧ t.bus.execBreaks = s.bus.execBreaks ∧ t.bus.readBreaks = s.bus.readBreaks ∧
      t.bus.writeBreaks = s.bus.writeBreaks

/-- The transactions of a step (20_memory.md R65; the event list is log entry 10): the fetches of its bytes come first, every
later event carries the instruction's address, and the write transactions account for every byte of memory after the step. -/
def Obligations.StepTransactions : Prop :=
  ∀ s t : State, s.status = .running → step s = .next t →
    ∃ es, t.bus.events = fetchEvents (fetchInstr s).length s ++ es ∧
      (∀ e ∈ es, dataEventOf (fetchInstr s) s.pc e) ∧
      (∀ addr : Word, t.byteAt addr = (writesTo addr es).getLastD (s.byteAt addr))

/-- Observers, breakpoints, the cycle counter and last_pc affect no register, no flag, no memory byte and no status
(20_memory.md R59, R64; 10_state.md R22, R43): two states that differ only there step to states that differ only there. -/
def Obligations.ObserversDoNotAffectTheCore : Prop :=
  ∀ (s t : State) (u : Bus) (c : BitVec 64) (p : Word), step s = .next t →
    ∃ t', step { s with bus := u, cycles := c, lastPc := p } = .next t' ∧
      t'.a = t.a ∧ t'.b = t.b ∧ t'.x = t.x ∧ t'.y = t.y ∧ t'.sp = t.sp ∧ t'.pc = t.pc ∧ t'.ccr = t.ccr ∧
      t'.status = t.status ∧ t'.mem = t.mem ∧ t'.freeCount = t.freeCount

/-! ## The bus, the observers and the host -/

/-- A trapped access completes as if no observer existed, and calls every observer registered for the address, in registration
order, with last_pc (20_memory.md R64). -/
def Obligations.TrappedAccessNotifies : Prop :=
  ∀ (s : State) (addr : Word) (v : Byte),
    (memRead8 addr s).1 = s.byteAt addr ∧ (memRead8 addr s).2.mem = s.mem ∧
    (memRead8 addr s).2.bus.events =
      s.bus.events ++ .bus .read addr (s.byteAt addr) s.lastPc ::
        (s.bus.traps.filter fun e => e.addr == addr).map (fun e => .trap .read e.observer addr s.lastPc) ∧
    (∀ w : Word, (memWrite8 addr v s).byteAt w = if w = addr then v else s.byteAt w) ∧
    (memWrite8 addr v s).bus.events =
      s.bus.events ++ .bus .write addr v s.lastPc ::
        (s.bus.traps.filter fun e => e.addr == addr).map (fun e => .trap .write e.observer addr s.lastPc)

/-- A read (a write) of an address in the read (the write) set arms the latch with last_pc when the handler is registered for
the address; a fetch never does (60_exceptions.md R253). -/
def Obligations.BreakpointLatchArming : Prop :=
  ∀ (s : State) (addr : Word) (v : Byte) (i : Instr),
    (memRead8 addr s).2.bus.pending =
      (if ⟨addr, .breakpoints⟩ ∈ s.bus.traps ∧ addr ∈ s.bus.readBreaks then some s.lastPc else s.bus.pending) ∧
    (memWrite8 addr v s).bus.pending =
      (if ⟨addr, .breakpoints⟩ ∈ s.bus.traps ∧ addr ∈ s.bus.writeBreaks then some s.lastPc else s.bus.pending) ∧
    (beginInstr i s).bus.pending = s.bus.pending

/-- The poll after a step (60_exceptions.md R254): the latch first, cleared as it is reported, then the execute set. -/
def Obligations.CheckAfterStep : Prop :=
  ∀ s : State,
    (∀ p, s.bus.pending = some p → checkAfterStep s = (some p, { s with bus := { s.bus with pending := none } })) ∧
    (s.bus.pending = none → s.pc ∈ s.bus.execBreaks → checkAfterStep s = (some s.pc, s)) ∧
    (s.bus.pending = none → s.pc ∉ s.bus.execBreaks → checkAfterStep s = (none, s))

/-- A new read breakpoint on an address that a load reads is reported by the poll right after the load, at the load's own
address, and by no later poll unless an execute breakpoint is hit (60_exceptions.md R255). -/
def Obligations.ReadBreakpointHaltsAtTheInstruction : Prop :=
  ∀ (s t : State) (m : Ea), s.status = .running → s.bus.pending = none → ea m s ∉ s.bus.readBreaks →
    (fetchInstr s = .ldaa (.mem m) ∨ fetchInstr s = .ldab (.mem m)) → step (addReadBreak (ea m s) s) = .next t →
    (checkAfterStep t).1 = some s.pc ∧
      (t.pc ∉ t.bus.execBreaks → (checkAfterStep (checkAfterStep t).2).1 = none)

/-- setPC writes PC and nothing else, status included; writeMemBlock stores its bytes in order at rising addresses modulo 65536
and changes nothing else, the observers' events included (70_reset_and_hazards.md R262, R263). -/
def Obligations.HostLoading : Prop :=
  ∀ (addr : Word) (bytes : List Byte) (s : State),
    setPC addr s = { s with pc := addr } ∧
    writeMemBlock addr bytes s = { s with mem := (writeMemBlock addr bytes s).mem } ∧
    (∀ (n : Nat) (h : n < bytes.length),
      (∀ k, n < k → k < bytes.length → addr + BitVec.ofNat 16 k ≠ addr + BitVec.ofNat 16 n) →
      (writeMemBlock addr bytes s).byteAt (addr + BitVec.ofNat 16 n) = bytes[n]) ∧
    (∀ w : Word, (∀ k, k < bytes.length → w ≠ addr + BitVec.ofNat 16 k) →
      (writeMemBlock addr bytes s).byteAt w = s.byteAt w)

/-! ## Primitives -/

/-- A word access is two byte accesses, high byte at the lower address, at every address (20_memory.md R53). -/
def Obligations.WordsAreBigEndian : Prop :=
  ∀ (s : State) (addr v : Word),
    memRead16 addr s =
      (joinBytes (s.byteAt addr) (s.byteAt (addr + 1)), (memRead8 (addr + 1) (memRead8 addr s).2).2) ∧
    memWrite16 addr v s = memWrite8 (addr + 1) (loByte v) (memWrite8 addr (hiByte v) s) ∧
    (memRead16 addr (memWrite16 addr v s)).1 = v ∧ (memWrite16 addr v s).byteAt addr = hiByte v

/-- The stack primitives (20_memory.md R55), and that a pull takes back what a push left. -/
def Obligations.StackPrimitives : Prop :=
  ∀ (s : State) (v : Byte) (w : Word),
    push8 v s = { memWrite8 s.sp v s with sp := s.sp - 1 } ∧
    pull8 s = memRead8 (s.sp + 1) { s with sp := s.sp + 1 } ∧
    push16 w s = push8 (hiByte w) (push8 (loByte w) s) ∧
    (pull16 s).1 = joinBytes (s.byteAt (s.sp + 1)) (s.byteAt (s.sp + 2)) ∧ (pull16 s).2 = (pull8 (pull8 s).2).2 ∧
    (push16 w s).byteAt s.sp = loByte w ∧ (push16 w s).byteAt (s.sp - 1) = hiByte w ∧ (push16 w s).sp = s.sp - 2 ∧
    (pull8 (push8 v s)).1 = v ∧ (pull8 (push8 v s)).2.sp = s.sp ∧
    (pull16 (push16 w s)).1 = w ∧ (pull16 (push16 w s)).2.sp = s.sp

/-- SetCCR, SetBits, ClearBits and the writing of one flag, each as the spec's formula, bit by bit (10_state.md R24, R25). -/
def Obligations.FlagPrimitives : Prop :=
  ∀ (v c : Byte) (f g : Flag) (k : Bool),
    setCcrByte v c = (v &&& 0xBF) ||| (v &&& c &&& 0x40) ∧
    setBits v c = c ||| (v &&& 0xBF) ∧ clearBits v c = c &&& ~~~v ∧
    ccrBit (setCcrByte v c) f = (if f = .x then ccrBit v .x && ccrBit c .x else ccrBit v f) ∧
    ccrBit (putFlag g k c) f = (if f ≠ g then ccrBit c f else if g = .x then k && ccrBit c .x else k) ∧
    setCcrByte 0x40 0x00 = 0x00

/-- N and Z of a result, the logic flags and the shift flags; every other flag is kept (10_state.md R35, R36, R41, R42). -/
def Obligations.ResultFlags : Prop :=
  ∀ (r c : Byte) (w : Word) (co : Bool) (f : Flag),
    ccrBit (nz8 r c) f = (if f = .n then r.getLsbD 7 else if f = .z then r == 0 else ccrBit c f) ∧
    ccrBit (nz16 w c) f = (if f = .n then w.getLsbD 15 else if f = .z then w == 0 else ccrBit c f) ∧
    ccrBit (logic8 r c) f = (if f = .v then false else ccrBit (nz8 r c) f) ∧
    ccrBit (logic16 w c) f = (if f = .v then false else ccrBit (nz16 w c) f) ∧
    ccrBit (shiftFlags8 r co c) f =
      (if f = .c then co else if f = .v then r.getLsbD 7 ^^ co else ccrBit (nz8 r c) f) ∧
    ccrBit (shiftFlags16 w co c) f =
      (if f = .c then co else if f = .v then w.getLsbD 15 ^^ co else ccrBit (nz16 w c) f)

/-- Add8 and Add16 as the spec's formulas; V of Add8 is also the signed sum out of range (10_state.md R37, R39). -/
def Obligations.AdditionFlags : Prop :=
  (∀ (a m c : Byte) (k : Bool),
    (add8 a m k c).value.toNat = (a.toNat + m.toNat + k.toNat) % 256 ∧
    ccrBit (add8 a m k c).ccr .h = decide ((a &&& 0x0F).toNat + (m &&& 0x0F).toNat + k.toNat > 0x0F) ∧
    ccrBit (add8 a m k c).ccr .n = (add8 a m k c).value.getLsbD 7 ∧
    ccrBit (add8 a m k c).ccr .z = ((add8 a m k c).value == 0) ∧
    ccrBit (add8 a m k c).ccr .v =
      ((a.getLsbD 7 == m.getLsbD 7) && ((add8 a m k c).value.getLsbD 7 != a.getLsbD 7)) ∧
    ccrBit (add8 a m k c).ccr .v = outOfRange8 (a.toInt + m.toInt + k.toNat) ∧
    ccrBit (add8 a m k c).ccr .c = decide (a.toNat + m.toNat + k.toNat > 0xFF) ∧
    (∀ f : Flag, f = .i ∨ f = .x ∨ f = .s → ccrBit (add8 a m k c).ccr f = ccrBit c f)) ∧
  (∀ (a m : Word) (c : Byte),
    (add16 a m c).value.toNat = (a.toNat + m.toNat) % 65536 ∧
    ccrBit (add16 a m c).ccr .n = (add16 a m c).value.getLsbD 15 ∧
    ccrBit (add16 a m c).ccr .z = ((add16 a m c).value == 0) ∧
    ccrBit (add16 a m c).ccr .v =
      ((a.getLsbD 15 == m.getLsbD 15) && ((add16 a m c).value.getLsbD 15 != a.getLsbD 15)) ∧
    ccrBit (add16 a m c).ccr .c = decide (a.toNat + m.toNat > 0xFFFF) ∧
    (∀ f : Flag, f = .h ∨ f = .i ∨ f = .x ∨ f = .s → ccrBit (add16 a m c).ccr f = ccrBit c f))

/-- Sub8 and Sub16 as the spec's formulas; H is never written (10_state.md R38, R40). -/
def Obligations.SubtractionFlags : Prop :=
  (∀ (a m c : Byte) (k : Bool),
    ((sub8 a m k c).value.toNat : Int) = ((a.toNat : Int) - m.toNat - k.toNat) % 256 ∧
    ccrBit (sub8 a m k c).ccr .n = (sub8 a m k c).value.getLsbD 7 ∧
    ccrBit (sub8 a m k c).ccr .z = ((sub8 a m k c).value == 0) ∧
    ccrBit (sub8 a m k c).ccr .v =
      ((a.getLsbD 7 != m.getLsbD 7) && (m.getLsbD 7 == (sub8 a m k c).value.getLsbD 7)) ∧
    ccrBit (sub8 a m k c).ccr .c = decide ((a.toNat : Int) - m.toNat - k.toNat < 0) ∧
    (∀ f : Flag, f = .h ∨ f = .i ∨ f = .x ∨ f = .s → ccrBit (sub8 a m k c).ccr f = ccrBit c f)) ∧
  (∀ (a m : Word) (c : Byte),
    ((sub16 a m c).value.toNat : Int) = ((a.toNat : Int) - m.toNat) % 65536 ∧
    ccrBit (sub16 a m c).ccr .n = (sub16 a m c).value.getLsbD 15 ∧
    ccrBit (sub16 a m c).ccr .z = ((sub16 a m c).value == 0) ∧
    ccrBit (sub16 a m c).ccr .v =
      ((a.getLsbD 15 != m.getLsbD 15) && (m.getLsbD 15 == (sub16 a m c).value.getLsbD 15)) ∧
    ccrBit (sub16 a m c).ccr .c = decide ((a.toNat : Int) - m.toNat < 0) ∧
    (∀ f : Flag, f = .h ∨ f = .i ∨ f = .x ∨ f = .s → ccrBit (sub16 a m c).ccr f = ccrBit c f))

/-! ## Loads, stores, transfers and the stack (40_load_store_transfer.md) -/

/-- ldaa, ldab, ldd, lds, ldx, ldy complete with the operand in the register, N and Z from it and V cleared (40 R101 to R106). -/
def Obligations.Loads : Prop :=
  ∀ s : State,
    UpdatesAccumulator .ldaa .ldab s (fun _ m => m) (fun _ m t => SetsLogic8 m t) partsNzv ∧
    (∀ o : Opnd16,
      (∃ t, exec (.ldd o) s = .next t ∧ t.d = operand16 o s ∧ t.a = hiByte (operand16 o s) ∧ t.b = loByte (operand16 o s) ∧
        SetsLogic16 (operand16 o s) t ∧ OnlyChanges (.a :: .b :: partsNzv) s t) ∧
      (∃ t, exec (.lds o) s = .next t ∧ t.sp = operand16 o s ∧ SetsLogic16 (operand16 o s) t ∧
        OnlyChanges (.sp :: partsNzv) s t) ∧
      (∃ t, exec (.ldx o) s = .next t ∧ t.x = operand16 o s ∧ SetsLogic16 (operand16 o s) t ∧
        OnlyChanges (.x :: partsNzv) s t) ∧
      (∃ t, exec (.ldy o) s = .next t ∧ t.y = operand16 o s ∧ SetsLogic16 (operand16 o s) t ∧
        OnlyChanges (.y :: partsNzv) s t))

/-- staa, stab, std, sts, stx, sty complete with the register at EA (high byte first), N and Z from it, V cleared, and no other
byte of memory changed (40 R107 to R112). -/
def Obligations.Stores : Prop :=
  ∀ (m : Ea) (s : State),
    (∃ t, exec (.staa m) s = .next t ∧ t.byteAt (ea m s) = s.a ∧ SetsLogic8 s.a t ∧
      OnlyChanges (.mem :: partsNzv) s t ∧ MemOnlyAt [ea m s] s t) ∧
    (∃ t, exec (.stab m) s = .next t ∧ t.byteAt (ea m s) = s.b ∧ SetsLogic8 s.b t ∧
      OnlyChanges (.mem :: partsNzv) s t ∧ MemOnlyAt [ea m s] s t) ∧
    (∃ t, exec (.std m) s = .next t ∧ t.byteAt (ea m s) = s.a ∧ t.byteAt (ea m s + 1) = s.b ∧ SetsLogic16 s.d t ∧
      OnlyChanges (.mem :: partsNzv) s t ∧ MemOnlyAt [ea m s, ea m s + 1] s t) ∧
    (∃ t, exec (.sts m) s = .next t ∧ t.wordAt (ea m s) = s.sp ∧ SetsLogic16 s.sp t ∧
      OnlyChanges (.mem :: partsNzv) s t ∧ MemOnlyAt [ea m s, ea m s + 1] s t) ∧
    (∃ t, exec (.stx m) s = .next t ∧ t.wordAt (ea m s) = s.x ∧ SetsLogic16 s.x t ∧
      OnlyChanges (.mem :: partsNzv) s t ∧ MemOnlyAt [ea m s, ea m s + 1] s t) ∧
    (∃ t, exec (.sty m) s = .next t ∧ t.wordAt (ea m s) = s.y ∧ SetsLogic16 s.y t ∧
      OnlyChanges (.mem :: partsNzv) s t ∧ MemOnlyAt [ea m s, ea m s + 1] s t)

/-- clra, clrb and clr complete with 0 in the destination and N, V, C cleared, Z set (40 R98 to R100). -/
def Obligations.Clears : Prop :=
  ∀ s : State,
    ModifiesByte .clra .clrb .clr s (fun _ => 0x00)
      (fun _ t => t.flag .n = false ∧ t.flag .z = true ∧ t.flag .v = false ∧ t.flag .c = false) partsNzvc

/-- psha, pshb, pshx, pshy complete with the register on the stack and SP below it; pula, pulb, pulx, puly with what lies above
SP in the register and SP raised; no flag changes (40 R113 to R120). -/
def Obligations.PushesAndPulls : Prop :=
  ∀ s : State,
    (∃ t, exec .psha s = .next t ∧ t.byteAt s.sp = s.a ∧ t.sp = s.sp - 1 ∧ OnlyChanges [.sp, .mem] s t ∧
      MemOnlyAt [s.sp] s t) ∧
    (∃ t, exec .pshb s = .next t ∧ t.byteAt s.sp = s.b ∧ t.sp = s.sp - 1 ∧ OnlyChanges [.sp, .mem] s t ∧
      MemOnlyAt [s.sp] s t) ∧
    (∃ t, exec .pshx s = .next t ∧ t.wordAt (s.sp - 1) = s.x ∧ t.sp = s.sp - 2 ∧ OnlyChanges [.sp, .mem] s t ∧
      MemOnlyAt [s.sp, s.sp - 1] s t) ∧
    (∃ t, exec .pshy s = .next t ∧ t.wordAt (s.sp - 1) = s.y ∧ t.sp = s.sp - 2 ∧ OnlyChanges [.sp, .mem] s t ∧
      MemOnlyAt [s.sp, s.sp - 1] s t) ∧
    (∃ t, exec .pula s = .next t ∧ t.a = s.byteAt (s.sp + 1) ∧ t.sp = s.sp + 1 ∧ OnlyChanges [.a, .sp] s t) ∧
    (∃ t, exec .pulb s = .next t ∧ t.b = s.byteAt (s.sp + 1) ∧ t.sp = s.sp + 1 ∧ OnlyChanges [.b, .sp] s t) ∧
    (∃ t, exec .pulx s = .next t ∧ t.x = s.wordAt (s.sp + 1) ∧ t.sp = s.sp + 2 ∧ OnlyChanges [.x, .sp] s t) ∧
    (∃ t, exec .puly s = .next t ∧ t.y = s.wordAt (s.sp + 1) ∧ t.sp = s.sp + 2 ∧ OnlyChanges [.y, .sp] s t)

/-- tab, tba, tsx, tsy, txs, tys, xgdx, xgdy complete with the value moved (40 R121 to R128). -/
def Obligations.Transfers : Prop :=
  ∀ s : State,
    (∃ t, exec .tab s = .next t ∧ t.b = s.a ∧ SetsLogic8 s.a t ∧ OnlyChanges (.b :: partsNzv) s t) ∧
    (∃ t, exec .tba s = .next t ∧ t.a = s.b ∧ SetsLogic8 s.b t ∧ OnlyChanges (.a :: partsNzv) s t) ∧
    (∃ t, exec .tsx s = .next t ∧ t.x = s.sp + 1 ∧ OnlyChanges [.x] s t) ∧
    (∃ t, exec .tsy s = .next t ∧ t.y = s.sp + 1 ∧ OnlyChanges [.y] s t) ∧
    (∃ t, exec .txs s = .next t ∧ t.sp = s.x - 1 ∧ OnlyChanges [.sp] s t) ∧
    (∃ t, exec .tys s = .next t ∧ t.sp = s.y - 1 ∧ OnlyChanges [.sp] s t) ∧
    (∃ t, exec .xgdx s = .next t ∧ t.x = s.d ∧ t.d = s.x ∧ OnlyChanges [.a, .b, .x] s t) ∧
    (∃ t, exec .xgdy s = .next t ∧ t.y = s.d ∧ t.d = s.y ∧ OnlyChanges [.a, .b, .y] s t)

/-! ## Arithmetic (41_arithmetic.md) -/

/-- aba, adda, addb, adca, adcb complete with the sum and its flags, H among them (41 R129 to R133). -/
def Obligations.ByteAdditions : Prop :=
  ∀ s : State,
    (∃ t, exec .aba s = .next t ∧ t.a = s.a + s.b ∧ SetsAdd8 s.a s.b false t ∧
      OnlyChanges (.a :: .flag .h :: partsNzvc) s t) ∧
    UpdatesAccumulator .adda .addb s (fun r m => r + m) (fun r m t => SetsAdd8 r m false t) (.flag .h :: partsNzvc) ∧
    UpdatesAccumulator .adca .adcb s (fun r m => sum8 r m (s.flag .c)) (fun r m t => SetsAdd8 r m (s.flag .c) t)
      (.flag .h :: partsNzvc)

/-- sba, suba, subb, sbca, sbcb complete with the difference and its flags; H is kept (41 R135 to R139). -/
def Obligations.ByteSubtractions : Prop :=
  ∀ s : State,
    (∃ t, exec .sba s = .next t ∧ t.a = s.a - s.b ∧ SetsSub8 s.a s.b false t ∧ OnlyChanges (.a :: partsNzvc) s t) ∧
    UpdatesAccumulator .suba .subb s (fun r m => r - m) (fun r m t => SetsSub8 r m false t) partsNzvc ∧
    UpdatesAccumulator .sbca .sbcb s (fun r m => difference8 r m (s.flag .c)) (fun r m t => SetsSub8 r m (s.flag .c) t)
      partsNzvc

/-- cba, cmpa, cmpb, tsta, tstb and tst complete with only the flags changed (41 R141 to R143, R156 to R158). -/
def Obligations.ByteComparesAndTests : Prop :=
  ∀ s : State,
    (∃ t, exec .cba s = .next t ∧ SetsSub8 s.a s.b false t ∧ OnlyChanges partsNzvc s t) ∧
    TestsAccumulator .cmpa .cmpb s (fun r m t => SetsSub8 r m false t) partsNzvc ∧
    (∃ t, exec .tsta s = .next t ∧ SetsLogic8 s.a t ∧ t.flag .c = false ∧ OnlyChanges partsNzvc s t) ∧
    (∃ t, exec .tstb s = .next t ∧ SetsLogic8 s.b t ∧ t.flag .c = false ∧ OnlyChanges partsNzvc s t) ∧
    (∀ m : EaNoDir, ∃ t, exec (.tst m) s = .next t ∧ SetsLogic8 (s.byteAt (ea m.toEa s)) t ∧ t.flag .c = false ∧
      OnlyChanges partsNzvc s t)

/-- addd and subd complete with the 16-bit result and its flags; cpd, cpx, cpy with the flags alone (41 R134, R140, R144 to
R146). -/
def Obligations.WordArithmetic : Prop :=
  ∀ (o : Opnd16) (s : State),
    (∃ t, exec (.addd o) s = .next t ∧ t.d = s.d + operand16 o s ∧ SetsAdd16 s.d (operand16 o s) t ∧
      OnlyChanges (.a :: .b :: partsNzvc) s t) ∧
    (∃ t, exec (.subd o) s = .next t ∧ t.d = s.d - operand16 o s ∧ SetsSub16 s.d (operand16 o s) t ∧
      OnlyChanges (.a :: .b :: partsNzvc) s t) ∧
    (∃ t, exec (.cpd o) s = .next t ∧ SetsSub16 s.d (operand16 o s) t ∧ OnlyChanges partsNzvc s t) ∧
    (∃ t, exec (.cpx o) s = .next t ∧ SetsSub16 s.x (operand16 o s) t ∧ OnlyChanges partsNzvc s t) ∧
    (∃ t, exec (.cpy o) s = .next t ∧ SetsSub16 s.y (operand16 o s) t ∧ OnlyChanges partsNzvc s t)

/-- inca, incb, inc, deca, decb, dec, nega, negb, neg complete with the result and its flags; increments and decrements keep C
(41 R147 to R155). -/
def Obligations.IncrementsDecrementsNegations : Prop :=
  ∀ s : State,
    ModifiesByte .inca .incb .inc s (fun v => v + 1)
      (fun v t => SetsNz8 (v + 1) t ∧ t.flag .v = decide (v.toNat = 127)) partsNzv ∧
    ModifiesByte .deca .decb .dec s (fun v => v - 1)
      (fun v t => SetsNz8 (v - 1) t ∧ t.flag .v = decide (v.toNat = 128)) partsNzv ∧
    ModifiesByte .nega .negb .neg s (fun v => -v)
      (fun v t => SetsNz8 (-v) t ∧ t.flag .v = decide (v.toNat = 128) ∧ t.flag .c = decide (v.toNat ≠ 0)) partsNzvc

/-- abx, aby, inx, iny, dex, dey, ins, des complete with the 16-bit result, wrapping; of the flags only Z of inx, iny, dex, dey
changes, for dex and dey as their pseudocode says (41 R160 to R167; log entry 17). -/
def Obligations.IndexArithmetic : Prop :=
  ∀ s : State,
    (∃ t, exec .abx s = .next t ∧ t.x.toNat = (s.x.toNat + s.b.toNat) % 65536 ∧ OnlyChanges [.x] s t) ∧
    (∃ t, exec .aby s = .next t ∧ t.y.toNat = (s.y.toNat + s.b.toNat) % 65536 ∧ OnlyChanges [.y] s t) ∧
    (∃ t, exec .inx s = .next t ∧ t.x = s.x + 1 ∧ t.flag .z = (t.x == 0) ∧ OnlyChanges [.x, .flag .z] s t) ∧
    (∃ t, exec .iny s = .next t ∧ t.y = s.y + 1 ∧ t.flag .z = (t.y == 0) ∧ OnlyChanges [.y, .flag .z] s t) ∧
    (∃ t, exec .dex s = .next t ∧ t.x = s.x - 1 ∧ t.flag .z = (t.x == 0) ∧ OnlyChanges [.x, .flag .z] s t) ∧
    (∃ t, exec .dey s = .next t ∧ t.y = s.y - 1 ∧ t.flag .z = (t.y == 0) ∧ OnlyChanges [.y, .flag .z] s t) ∧
    (∃ t, exec .ins s = .next t ∧ t.sp = s.sp + 1 ∧ OnlyChanges [.sp] s t) ∧
    (∃ t, exec .des s = .next t ∧ t.sp = s.sp - 1 ∧ OnlyChanges [.sp] s t)

/-- daa completes with the adjusted byte, N, Z and C; V is left to a free value and nothing is said of it (41 R159, the default
`DAA_FN`, log entry 8; V is log entry 7). -/
def Obligations.DecimalAdjust : Prop :=
  ∀ s : State, ∃ t, exec .daa s = .next t ∧
    t.a = s.a +
      (if s.flag .h = true ∨ 9 < s.a.toNat % 16 then 0x06 else 0x00) +
      (if s.flag .c = true ∨ 9 < s.a.toNat / 16 ∨ (9 ≤ s.a.toNat / 16 ∧ 9 < s.a.toNat % 16) then 0x60 else 0x00) ∧
    SetsNz8 t.a t ∧
    t.flag .c = decide (s.flag .c = true ∨ 9 < s.a.toNat / 16 ∨ (9 ≤ s.a.toNat / 16 ∧ 9 < s.a.toNat % 16)) ∧
    OnlyChanges (.a :: .freeCount :: partsNzvc) s t

/-- Adding two packed-decimal bytes and adjusting gives the packed-decimal sum, with the hundred in C: adda (no carry in), adca
(the old C in) and aba, each followed by daa (41 R129 to R131, R159; the adjust is the default `DAA_FN`, log entry
8). -/
def Obligations.DecimalAddition : Prop :=
  ∀ (s : State) (m n : Nat), m < 100 → n < 100 → s.a = bcd m →
    (∃ u t, exec (.adda (.imm (bcd n))) s = .next u ∧ exec .daa u = .next t ∧
      t.a = bcd ((m + n) % 100) ∧ t.flag .c = decide (100 ≤ m + n)) ∧
    (∃ u t, exec (.adca (.imm (bcd n))) s = .next u ∧ exec .daa u = .next t ∧
      t.a = bcd ((m + n + (s.flag .c).toNat) % 100) ∧ t.flag .c = decide (100 ≤ m + n + (s.flag .c).toNat)) ∧
    (s.b = bcd n → ∃ u t, exec .aba s = .next u ∧ exec .daa u = .next t ∧
      t.a = bcd ((m + n) % 100) ∧ t.flag .c = decide (100 ≤ m + n))

/-- mul completes with the 16-bit product in D and its bit 7 in C; idiv with quotient and remainder, and by zero with the
source's fallback (41 R168, R169). -/
def Obligations.MultiplyAndIntegerDivide : Prop :=
  ∀ s : State,
    (∃ t, exec .mul s = .next t ∧ t.d.toNat = s.a.toNat * s.b.toNat ∧ t.flag .c = decide (128 ≤ t.b.toNat) ∧
      OnlyChanges [.a, .b, .flag .c] s t) ∧
    (s.x ≠ 0#16 → ∃ t, exec .idiv s = .next t ∧ t.x.toNat = s.d.toNat / s.x.toNat ∧ t.d.toNat = s.d.toNat % s.x.toNat ∧
      t.flag .z = decide (s.d.toNat < s.x.toNat) ∧ t.flag .v = false ∧ t.flag .c = false ∧
      OnlyChanges [.a, .b, .x, .flag .z, .flag .v, .flag .c] s t) ∧
    (s.x = 0#16 → ∃ t, exec .idiv s = .next t ∧ t.x = 0#16 ∧ t.flag .z = true ∧ t.flag .c = decide (s.d ≠ 0#16) ∧
      OnlyChanges [.x, .flag .z, .flag .c] s t)

/-- fdiv completes: with the exact fraction when D < X; by zero with the source's fallback; on overflow with V set, C cleared, Z
from whatever quotient X then holds, and nothing said of X and D, which are free values (41 R170, log entry 7). -/
def Obligations.FractionalDivide : Prop :=
  ∀ s : State,
    (s.d.toNat < s.x.toNat → ∃ t, exec .fdiv s = .next t ∧ t.x.toNat = s.d.toNat * 65536 / s.x.toNat ∧
      t.d.toNat = s.d.toNat * 65536 % s.x.toNat ∧ t.flag .z = (t.x == 0) ∧ t.flag .v = false ∧ t.flag .c = false ∧
      OnlyChanges [.a, .b, .x, .flag .z, .flag .v, .flag .c] s t) ∧
    (s.x = 0#16 → ∃ t, exec .fdiv s = .next t ∧ t.x = 0#16 ∧ t.flag .z = true ∧ t.flag .c = decide (s.d ≠ 0#16) ∧
      OnlyChanges [.x, .flag .z, .flag .c] s t) ∧
    (s.x ≠ 0#16 → s.x.toNat ≤ s.d.toNat → ∃ t, exec .fdiv s = .next t ∧ t.flag .z = (t.x == 0) ∧ t.flag .v = true ∧
      t.flag .c = false ∧ OnlyChanges [.a, .b, .x, .flag .z, .flag .v, .flag .c, .freeCount] s t)

/-! ## Logic and shifts (42_logic_shift.md) -/

/-- anda, andb, eora, eorb, oraa, orab complete with the bitwise result; bita, bitb with the flags of the AND alone; C is kept
(42 R171 to R178; bitb by its pseudocode, log entry 18). -/
def Obligations.LogicAndBitTests : Prop :=
  ∀ s : State,
    UpdatesAccumulator .anda .andb s (fun r m => r &&& m) (fun r m t => SetsLogic8 (r &&& m) t) partsNzv ∧
    UpdatesAccumulator .eora .eorb s (fun r m => r ^^^ m) (fun r m t => SetsLogic8 (r ^^^ m) t) partsNzv ∧
    UpdatesAccumulator .oraa .orab s (fun r m => r ||| m) (fun r m t => SetsLogic8 (r ||| m) t) partsNzv ∧
    TestsAccumulator .bita .bitb s (fun r m t => SetsLogic8 (r &&& m) t) partsNzv

/-- coma, comb, com complete with the one's complement, N and Z from it, V cleared and C set (42 R179 to R181). -/
def Obligations.Complements : Prop :=
  ∀ s : State,
    ModifiesByte .coma .comb .com s (fun v => ~~~v) (fun v t => SetsLogic8 (~~~v) t ∧ t.flag .c = true) partsNzvc

/-- asla, aslb, asl, asra, asrb, asr, lsra, lsrb, lsr, asld, lsrd complete with the shifted value, the bit shifted out in C and
V = N XOR C; asr keeps the sign (42 R182 to R190, R197, R198). -/
def Obligations.Shifts : Prop :=
  ∀ s : State,
    ModifiesByte .asla .aslb .asl s (fun v => v <<< 1) (fun v t => SetsShift8 (v <<< 1) (v.getLsbD 7) t) partsNzvc ∧
    ModifiesByte .asra .asrb .asr s (fun v => v.sshiftRight 1) (fun v t => SetsShift8 (v.sshiftRight 1) (v.getLsbD 0) t)
      partsNzvc ∧
    ModifiesByte .lsra .lsrb .lsr s (fun v => v >>> 1) (fun v t => SetsShift8 (v >>> 1) (v.getLsbD 0) t) partsNzvc ∧
    (∃ t, exec .asld s = .next t ∧ t.d = s.d <<< 1 ∧ SetsShift16 (s.d <<< 1) (s.d.getLsbD 15) t ∧
      OnlyChanges (.a :: .b :: partsNzvc) s t) ∧
    (∃ t, exec .lsrd s = .next t ∧ t.d = s.d >>> 1 ∧ SetsShift16 (s.d >>> 1) (s.d.getLsbD 0) t ∧
      OnlyChanges (.a :: .b :: partsNzvc) s t)

/-- rola, rolb, rol, rora, rorb, ror complete with the old C shifted in and the bit shifted out in C, V = N XOR C; so a rotate
left and a rotate right undo each other on the nine bits of C and the accumulator (42 R191 to R196). -/
def Obligations.Rotates : Prop :=
  ∀ s : State,
    ModifiesByte .rola .rolb .rol s (fun v => (v <<< 1) ||| BitVec.ofNat 8 (s.flag .c).toNat)
      (fun v t => SetsShift8 ((v <<< 1) ||| BitVec.ofNat 8 (s.flag .c).toNat) (v.getLsbD 7) t) partsNzvc ∧
    ModifiesByte .rora .rorb .ror s (fun v => (v >>> 1) ||| BitVec.ofNat 8 ((s.flag .c).toNat * 128))
      (fun v t => SetsShift8 ((v >>> 1) ||| BitVec.ofNat 8 ((s.flag .c).toNat * 128)) (v.getLsbD 0) t) partsNzvc ∧
    (∃ u t, exec .rola s = .next u ∧ exec .rora u = .next t ∧ t.a = s.a ∧ t.flag .c = s.flag .c) ∧
    (∃ u t, exec .rorb s = .next u ∧ exec .rolb u = .next t ∧ t.b = s.b ∧ t.flag .c = s.flag .c)

/-! ## Bit operations (43_bit_manipulation.md) -/

/-- bset and bclr complete with the masked bits set or cleared in the byte at EA, N and Z from it, V cleared (43 R199, R200). -/
def Obligations.BitSetAndClear : Prop :=
  ∀ (m : EaNoExt) (mask : Byte) (s : State),
    (∃ t, exec (.bset m mask) s = .next t ∧ t.byteAt (ea m.toEa s) = s.byteAt (ea m.toEa s) ||| mask ∧
      SetsLogic8 (s.byteAt (ea m.toEa s) ||| mask) t ∧ OnlyChanges (.mem :: partsNzv) s t ∧
      MemOnlyAt [ea m.toEa s] s t) ∧
    (∃ t, exec (.bclr m mask) s = .next t ∧ t.byteAt (ea m.toEa s) = s.byteAt (ea m.toEa s) &&& ~~~mask ∧
      SetsLogic8 (s.byteAt (ea m.toEa s) &&& ~~~mask) t ∧ OnlyChanges (.mem :: partsNzv) s t ∧
      MemOnlyAt [ea m.toEa s] s t)

/-- brset and brclr complete: the branch is taken when every (no) masked bit is set; N, Z and V as `BRBIT_FLAGS` = doc says, the
spec's default, which the model takes (43 R201, R202; log entry 9). -/
def Obligations.BitBranches : Prop :=
  ∀ (m : EaNoExt) (mask rr : Byte) (s : State),
    (∃ t, exec (.brset m mask rr) s = .next t ∧
      (t.pc.toNat : Int) =
        (if s.byteAt (ea m.toEa s) &&& mask = mask then (s.pc.toNat + rr.toInt) % 65536 else s.pc.toNat) ∧
      SetsLogic8 (s.byteAt (ea m.toEa s) &&& mask) t ∧ OnlyChanges (.pc :: partsNzv) s t) ∧
    (∃ t, exec (.brclr m mask rr) s = .next t ∧
      (t.pc.toNat : Int) =
        (if s.byteAt (ea m.toEa s) &&& mask = 0 then (s.pc.toNat + rr.toInt) % 65536 else s.pc.toNat) ∧
      SetsLogic8 (s.byteAt (ea m.toEa s) &&& mask) t ∧ OnlyChanges (.pc :: partsNzv) s t)

/-! ## Control transfer (44_control_transfer.md) -/

/-- The sixteen branches complete, each taken on its condition (44 R203 to R218). -/
def Obligations.ConditionalBranches : Prop :=
  ∀ s : State,
    Branches .bra s true ∧ Branches .brn s false ∧
    Branches .bhi s (decide (s.flag .c = false ∧ s.flag .z = false)) ∧
    Branches .bls s (decide (s.flag .c = true ∨ s.flag .z = true)) ∧
    Branches .bcc s (decide (s.flag .c = false)) ∧ Branches .bcs s (decide (s.flag .c = true)) ∧
    Branches .bne s (decide (s.flag .z = false)) ∧ Branches .beq s (decide (s.flag .z = true)) ∧
    Branches .bvc s (decide (s.flag .v = false)) ∧ Branches .bvs s (decide (s.flag .v = true)) ∧
    Branches .bpl s (decide (s.flag .n = false)) ∧ Branches .bmi s (decide (s.flag .n = true)) ∧
    Branches .bge s (decide (s.flag .n = s.flag .v)) ∧ Branches .blt s (decide (s.flag .n ≠ s.flag .v)) ∧
    Branches .bgt s (decide (s.flag .z = false ∧ s.flag .n = s.flag .v)) ∧
    Branches .ble s (decide (s.flag .z = true ∨ s.flag .n ≠ s.flag .v))

/-- After a compare of A with an operand, each ordering branch is taken exactly when its relation holds of the two bytes read as
unsigned or as signed numbers (41 R142; 44 R205 to R210, R215 to R218). -/
def Obligations.CompareThenBranch : Prop :=
  ∀ (o : Opnd8) (s t : State), exec (.cmpa o) s = .next t →
    Branches .bhi t (decide (s.a.toNat > (operand8 o s).toNat)) ∧
    Branches .bls t (decide (s.a.toNat ≤ (operand8 o s).toNat)) ∧
    Branches .bcc t (decide (s.a.toNat ≥ (operand8 o s).toNat)) ∧
    Branches .bcs t (decide (s.a.toNat < (operand8 o s).toNat)) ∧
    Branches .bne t (decide (s.a ≠ operand8 o s)) ∧ Branches .beq t (decide (s.a = operand8 o s)) ∧
    Branches .bge t (decide (s.a.toInt ≥ (operand8 o s).toInt)) ∧
    Branches .blt t (decide (s.a.toInt < (operand8 o s).toInt)) ∧
    Branches .bgt t (decide (s.a.toInt > (operand8 o s).toInt)) ∧
    Branches .ble t (decide (s.a.toInt ≤ (operand8 o s).toInt))

/-- jmp, jsr, bsr and rts complete: jsr and bsr leave the address of the next instruction on the stack, high byte lower, and rts
takes it from there (44 R219 to R222; jsr by its pseudocode, log entry 19). -/
def Obligations.JumpsAndCalls : Prop :=
  ∀ s : State,
    (∀ m : EaNoDir, ∃ t, exec (.jmp m) s = .next t ∧ t.pc = ea m.toEa s ∧ OnlyChanges [.pc] s t) ∧
    (∀ m : Ea, ∃ t, exec (.jsr m) s = .next t ∧ t.pc = ea m s ∧ t.byteAt s.sp = loByte s.pc ∧
      t.byteAt (s.sp - 1) = hiByte s.pc ∧ t.sp = s.sp - 2 ∧ OnlyChanges [.pc, .sp, .mem] s t ∧
      MemOnlyAt [s.sp, s.sp - 1] s t) ∧
    (∀ rr : Byte, ∃ t, exec (.bsr rr) s = .next t ∧ (t.pc.toNat : Int) = (s.pc.toNat + rr.toInt) % 65536 ∧
      t.byteAt s.sp = loByte s.pc ∧ t.byteAt (s.sp - 1) = hiByte s.pc ∧ t.sp = s.sp - 2 ∧
      OnlyChanges [.pc, .sp, .mem] s t ∧ MemOnlyAt [s.sp, s.sp - 1] s t) ∧
    (∃ t, exec .rts s = .next t ∧ t.pc = joinBytes (s.byteAt (s.sp + 1)) (s.byteAt (s.sp + 2)) ∧ t.sp = s.sp + 2 ∧
      OnlyChanges [.pc, .sp] s t)

/-! ## System (45_system.md) -/

/-- clc, sec, clv, sev, cli, sei write their flag and nothing else; tap writes the CCR through SetCCR; tpa copies it to A; nop
changes nothing (45 R224 to R232). -/
def Obligations.FlagInstructions : Prop :=
  ∀ s : State,
    (∃ t, exec .clc s = .next t ∧ t.flag .c = false ∧ OnlyChanges [.flag .c] s t) ∧
    (∃ t, exec .sec s = .next t ∧ t.flag .c = true ∧ OnlyChanges [.flag .c] s t) ∧
    (∃ t, exec .clv s = .next t ∧ t.flag .v = false ∧ OnlyChanges [.flag .v] s t) ∧
    (∃ t, exec .sev s = .next t ∧ t.flag .v = true ∧ OnlyChanges [.flag .v] s t) ∧
    (∃ t, exec .cli s = .next t ∧ t.flag .i = false ∧ OnlyChanges [.flag .i] s t) ∧
    (∃ t, exec .sei s = .next t ∧ t.flag .i = true ∧ OnlyChanges [.flag .i] s t) ∧
    (∃ t, exec .tap s = .next t ∧ t.ccr = (s.a &&& 0xBF) ||| (s.a &&& s.ccr &&& 0x40) ∧
      OnlyChanges ([.c, .v, .z, .n, .i, .h, .x, .s].map .flag) s t) ∧
    (∃ t, exec .tpa s = .next t ∧ t.a = s.ccr ∧ OnlyChanges [.a] s t) ∧
    exec .nop s = .next s

/-- swi completes: the nine bytes of the frame, SP = s - 9, I set and no other flag, PC from the vector as memory holds it then
(60_exceptions.md R241, R242; 45 R233). -/
def Obligations.SoftwareInterruptEntry : Prop :=
  ∀ s : State, ∃ t, exec .swi s = .next t ∧
    t.byteAt s.sp = loByte s.pc ∧ t.byteAt (s.sp - 1) = hiByte s.pc ∧ t.byteAt (s.sp - 2) = loByte s.y ∧
    t.byteAt (s.sp - 3) = hiByte s.y ∧ t.byteAt (s.sp - 4) = loByte s.x ∧ t.byteAt (s.sp - 5) = hiByte s.x ∧
    t.byteAt (s.sp - 6) = s.a ∧ t.byteAt (s.sp - 7) = s.b ∧ t.byteAt (s.sp - 8) = s.ccr ∧
    t.sp = s.sp - 9 ∧ t.flag .i = true ∧ t.pc = joinBytes (t.byteAt 0xFFF6) (t.byteAt 0xFFF7) ∧
    OnlyChanges [.pc, .sp, .mem, .flag .i] s t ∧
    MemOnlyAt ((List.range 9).map fun n => s.sp - BitVec.ofNat 16 n) s t

/-- rti completes: CCR through SetCCR, B, A, X, Y and PC from the nine bytes above SP, SP raised by 9; wai completes: the frame of
swi and Waiting; stop completes: Stopped if S = 0, nothing if S = 1 (60_exceptions.md R242, R244; 45 R234 to R236). -/
def Obligations.ReturnWaitAndStop : Prop :=
  ∀ s : State,
    (∃ t, exec .rti s = .next t ∧ t.ccr = setCcrByte (s.byteAt (s.sp + 1)) s.ccr ∧ t.b = s.byteAt (s.sp + 2) ∧
      t.a = s.byteAt (s.sp + 3) ∧ t.x = s.wordAt (s.sp + 4) ∧ t.y = s.wordAt (s.sp + 6) ∧ t.pc = s.wordAt (s.sp + 8) ∧
      t.sp = s.sp + 9 ∧
      OnlyChanges ([.a, .b, .x, .y, .sp, .pc] ++ [.c, .v, .z, .n, .i, .h, .x, .s].map .flag) s t) ∧
    (∃ t, exec .wai s = .next t ∧ t.wordAt (s.sp - 1) = s.pc ∧ t.wordAt (s.sp - 3) = s.y ∧ t.wordAt (s.sp - 5) = s.x ∧
      t.byteAt (s.sp - 6) = s.a ∧ t.byteAt (s.sp - 7) = s.b ∧ t.byteAt (s.sp - 8) = s.ccr ∧ t.sp = s.sp - 9 ∧
      t.status = .waiting ∧ OnlyChanges [.sp, .mem, .status] s t ∧
      MemOnlyAt ((List.range 9).map fun n => s.sp - BitVec.ofNat 16 n) s t) ∧
    (s.flag .s = false → ∃ t, exec .stop s = .next t ∧ t.status = .stopped ∧ OnlyChanges [.status] s t) ∧
    (s.flag .s = true → exec .stop s = .next s)

/-- A return right after a software interrupt restores every register, PC and the CCR, whatever SP is: the frame is read back as
it was stacked (60_exceptions.md R242, R244). -/
def Obligations.ReturnUndoesSoftwareInterrupt : Prop :=
  ∀ s : State, ∃ u t, exec .swi s = .next u ∧ exec .rti u = .next t ∧
    OnlyChanges [.mem] s t ∧ MemOnlyAt ((List.range 9).map fun n => s.sp - BitVec.ofNat 16 n) s t

/-- A step on an unmapped opcode (30_encoding.md R87): a no-op with a diagnostic, on page 1 and on a prefixed page. Its fetches
stand first among the step's events (20_memory.md R65) and carry the instruction's address (log entry 10). -/
def Obligations.UnmappedOpcodeIsANoOp : Prop :=
  ∀ (s : State), s.status = .running →
    (unmapped .p1 (s.byteAt s.pc) = true →
      step s =
        .next
          { s with
            lastPc := s.pc
            pc := s.pc + 1
            cycles := s.cycles + BitVec.ofNat 64 (Config.invalidOpcodeCycles .p1)
            bus :=
              { s.bus with
                events :=
                  [.bus .fetch s.pc (s.byteAt s.pc) s.pc, .invalidOpcode .p1 (s.byteAt s.pc) s.pc s.pc] } }) ∧
    (∀ page : Page, pageOfPrefix (s.byteAt s.pc) = some page → mapped page (s.byteAt (s.pc + 1)) = false →
      step s =
        .next
          { s with
            lastPc := s.pc
            pc := s.pc + 2
            cycles := s.cycles + BitVec.ofNat 64 (Config.invalidOpcodeCycles page)
            bus :=
              { s.bus with
                events :=
                  [.bus .fetch s.pc (s.byteAt s.pc) s.pc, .bus .fetch (s.pc + 1) (s.byteAt (s.pc + 1)) s.pc,
                    .invalidOpcode page (s.byteAt (s.pc + 1)) (s.pc + 1) s.pc] } })

/-- The two arms no instruction of a program's own reaches as such complete: an unmapped opcode only emits its diagnostic (30
R87), a prefix byte by itself does nothing and is never what a step decodes (30 R84; its meaning is log entry 12). -/
def Obligations.InvalidAndPrefixArms : Prop :=
  ∀ s : State,
    (∀ (page : Page) (op : Byte), ∃ t, exec (.invalid page op) s = .next t ∧ OnlyChanges [] s t ∧
      t.bus.events = s.bus.events ++ [.invalidOpcode page op (s.pc - 1) s.lastPc] ∧ t.bus.pending = s.bus.pending) ∧
    (∀ p : PrefixByte, exec (.prefixByte p) s = .next s ∧ fetchInstr s ≠ .prefixByte p)

/-! ## Pacing -/

/-- A slice is polled steps: it takes a further step only while the cycles charged are below the budget, so it ends after the step
that reaches or passes it; or at the halt a poll reports (the model's choice, log entry 15); or at the host's bound on steps. A
turn of the loop runs one slice and then calls visualUpdate on every display once, or does nothing while the run flag is clear
or the core is halted (70_reset_and_hazards.md R266, R267; 60_exceptions.md R254, R258). -/
def Obligations.PacingRunsPolledSlices : Prop :=
  (∀ (bound budget : Nat) (s : State), ∃ (k : Nat) (e : SliceEnd), k ≤ bound ∧
    runSlice bound budget s = .next (e, polledSteps k s) ∧
    (∀ j, j < k → charged j s < budget ∧ haltAfter (polledSteps j s) = if j + 1 = k then e.halt else none) ∧
    match e with
    | .budget => budget ≤ charged k s
    | .halted _ => 0 < k
    | .stepBound => k = bound ∧ charged k s < budget) ∧
  (∀ p : Pacer, p.halt = none → ∃ (e : SliceEnd) (t : State),
    runSlice p.bound (sliceBudget p.clock p.refresh) p.core = .next (e, t) ∧
    p.turn true =
      .next
        { p with
          core := t
          displays := p.displays.map fun d => { d with updates := d.updates + 1 }
          halt := e.halt }) ∧
  (∀ p : Pacer, p.turn false = .next p ∧ (p.halt ≠ none → ∀ runFlag, p.turn runFlag = .next p))
end

