-- ==== Sys2Proof/Laws/Bits.lean ====
section
/-! SUPPORT. Splitting a word into bytes and joining them again. -/

namespace Sys2Proof.Machine

@[simp] theorem hiByte_joinBytes (hi lo : Byte) : hiByte (joinBytes hi lo) = hi := by
  unfold hiByte joinBytes
  ext i h
  simp only [BitVec.getElem_extractLsb', BitVec.getLsbD_append]
  simp [show ¬ (8 + i < 8) by omega, BitVec.getLsbD_eq_getElem h]

@[simp] theorem loByte_joinBytes (hi lo : Byte) : loByte (joinBytes hi lo) = lo := by
  unfold loByte joinBytes
  ext i h
  simp only [BitVec.getElem_extractLsb', BitVec.getLsbD_append]
  simp [h]

@[simp] theorem joinBytes_hiByte_loByte (v : Word) : joinBytes (hiByte v) (loByte v) = v := by
  unfold hiByte loByte joinBytes
  ext i h
  simp only [BitVec.getElem_append, BitVec.getElem_extractLsb']
  split
  · simp [BitVec.getLsbD_eq_getElem (show i < 16 by omega)]
  · simp [show 8 + (i - 8) = i by omega, BitVec.getLsbD_eq_getElem (show i < 16 by omega)]

theorem joinBytes_toNat (hi lo : Byte) : (joinBytes hi lo).toNat = hi.toNat * 256 + lo.toNat := by
  unfold joinBytes
  rw [BitVec.toNat_append, Nat.shiftLeft_eq, Nat.mul_comm, ← Nat.two_pow_add_eq_or_of_lt lo.isLt]

theorem joinBytes_inj {hi lo hi' lo' : Byte} (h : joinBytes hi lo = joinBytes hi' lo') : hi = hi' ∧ lo = lo' :=
  ⟨by simpa using congrArg hiByte h, by simpa using congrArg loByte h⟩

/-! Addresses at fixed distances from one address are equal only at equal distances. -/

theorem sub_eq_sub_iff (p c d : Word) : p - c = p - d ↔ c = d := by
  constructor
  · intro h; bv_omega
  · rintro rfl; rfl

theorem eq_sub_iff (p c : Word) : p = p - c ↔ c = 0 := by
  constructor
  · intro h; bv_omega
  · rintro rfl; simp

theorem sub_eq_iff (p c : Word) : p - c = p ↔ c = 0 := by rw [eq_comm, eq_sub_iff]

theorem sub_add (p c d : Word) : p - c + d = p - (c - d) := by bv_omega

end Sys2Proof.Machine
end

