-- ==== Sys2Proof/Laws/Flags.lean ====
section
/-! SUPPORT. Each bit of the CCR after each flag primitive and building block. -/

namespace Sys2Proof.Machine

/-- A flag after a flag is written: the one written takes the bit, except that X is never set; the others stay (10_state.md
R25). -/
@[simp] theorem ccrBit_putFlag (g : Flag) (b : Bool) (c : Byte) (f : Flag) :
    ccrBit (putFlag g b c) f = if f = g then (if g = .x then b && ccrBit c .x else b) else ccrBit c f := by
  cases b <;> cases f <;> cases g <;> simp [putFlag, setBits, clearBits, ccrBit, Flag.bit, Flag.mask]

/-- A flag after the CCR is written whole: X only if it was 1 and is written 1 (10_state.md R24, R26). -/
@[simp] theorem ccrBit_setCcrByte (v c : Byte) (f : Flag) :
    ccrBit (setCcrByte v c) f = if f = .x then ccrBit v .x && ccrBit c .x else ccrBit v f := by
  cases f <;> simp [setCcrByte, ccrBit, Flag.bit]

theorem ccrBit_nz8 (r c : Byte) (f : Flag) :
    ccrBit (nz8 r c) f = if f = .z then r == 0 else if f = .n then r.getLsbD 7 else ccrBit c f := by
  cases f <;> simp [nz8]

theorem ccrBit_nz16 (r : Word) (c : Byte) (f : Flag) :
    ccrBit (nz16 r c) f = if f = .z then r == 0 else if f = .n then r.getLsbD 15 else ccrBit c f := by
  cases f <;> simp [nz16]

theorem ccrBit_logic8 (r c : Byte) (f : Flag) :
    ccrBit (logic8 r c) f =
      if f = .v then false else if f = .z then r == 0 else if f = .n then r.getLsbD 7 else ccrBit c f := by
  cases f <;> simp [logic8, ccrBit_nz8]

theorem ccrBit_logic16 (r : Word) (c : Byte) (f : Flag) :
    ccrBit (logic16 r c) f =
      if f = .v then false else if f = .z then r == 0 else if f = .n then r.getLsbD 15 else ccrBit c f := by
  cases f <;> simp [logic16, ccrBit_nz16]

theorem ccrBit_shiftFlags8 (r : Byte) (co : Bool) (c : Byte) (f : Flag) :
    ccrBit (shiftFlags8 r co c) f =
      if f = .v then r.getLsbD 7 ^^ co else if f = .z then r == 0 else if f = .n then r.getLsbD 7
      else if f = .c then co else ccrBit c f := by
  cases f <;> simp [shiftFlags8, ccrBit_nz8]

theorem ccrBit_shiftFlags16 (r : Word) (co : Bool) (c : Byte) (f : Flag) :
    ccrBit (shiftFlags16 r co c) f =
      if f = .v then r.getLsbD 15 ^^ co else if f = .z then r == 0 else if f = .n then r.getLsbD 15
      else if f = .c then co else ccrBit c f := by
  cases f <;> simp [shiftFlags16, ccrBit_nz16]

theorem add8_value (a m : Byte) (k : Bool) (c : Byte) :
    (add8 a m k c).value = BitVec.ofNat 8 (a.toNat + m.toNat + k.toNat) := rfl

theorem sub8_value (a m : Byte) (k : Bool) (c : Byte) :
    (sub8 a m k c).value = BitVec.ofInt 8 ((a.toNat : Int) - m.toNat - k.toNat) := rfl

/-- The flags an addition never writes (10_state.md R37). -/
theorem ccrBit_add8_kept (a m : Byte) (k : Bool) (c : Byte) {f : Flag} (h : f = .i ∨ f = .x ∨ f = .s) :
    ccrBit (add8 a m k c).ccr f = ccrBit c f := by
  rcases h with rfl | rfl | rfl <;> simp [add8, ccrBit_nz8]

/-- The flags a subtraction never writes: H among them (10_state.md R38). -/
theorem ccrBit_sub8_kept (a m : Byte) (k : Bool) (c : Byte) {f : Flag} (h : f = .h ∨ f = .i ∨ f = .x ∨ f = .s) :
    ccrBit (sub8 a m k c).ccr f = ccrBit c f := by
  rcases h with rfl | rfl | rfl | rfl <;> simp [sub8, ccrBit_nz8]

theorem ccrBit_sub8_c (a m : Byte) (k : Bool) (c : Byte) :
    ccrBit (sub8 a m k c).ccr .c = decide (a.toNat < m.toNat + k.toNat) := by
  simp only [sub8, ccrBit_putFlag, if_true]
  by_cases h : a.toNat < m.toNat + k.toNat <;> simp [h] <;> omega

/-! ## The shifts as shifts of bit vectors -/

theorem com8_eq (v c : Byte) : com8 v c = ⟨~~~v, putFlag .c true (logic8 (~~~v) c)⟩ := by
  have h : 0xFF - v = ~~~v := by revert v; decide
  simp only [com8, logic8, h]

theorem asl8_eq (v c : Byte) : asl8 v c = ⟨v <<< 1, shiftFlags8 (v <<< 1) (v.getLsbD 7) c⟩ := by
  have h : BitVec.ofNat 8 (v.toNat * 2) = v <<< 1 := by revert v; decide
  simp only [asl8, h]

theorem asr8_eq (v c : Byte) : asr8 v c = ⟨v.sshiftRight 1, shiftFlags8 (v.sshiftRight 1) (v.getLsbD 0) c⟩ := by
  have h : BitVec.ofNat 8 (v.toNat / 2) ||| (v &&& 0x80) = v.sshiftRight 1 := by revert v; decide
  simp only [asr8, h]

theorem lsr8_eq (v c : Byte) : lsr8 v c = ⟨v >>> 1, shiftFlags8 (v >>> 1) (v.getLsbD 0) c⟩ := by
  have h : BitVec.ofNat 8 (v.toNat / 2) = v >>> 1 := by revert v; decide
  simp only [lsr8, h]

theorem rol8_eq (v c : Byte) :
    rol8 v c =
      ⟨(v <<< 1) ||| BitVec.ofNat 8 (ccrBit c .c).toNat,
        shiftFlags8 ((v <<< 1) ||| BitVec.ofNat 8 (ccrBit c .c).toNat) (v.getLsbD 7) c⟩ := by
  have h (k : Bool) : BitVec.ofNat 8 (v.toNat * 2 + k.toNat) = (v <<< 1) ||| BitVec.ofNat 8 k.toNat := by
    revert v k; decide
  simp only [rol8, h]

theorem ror8_eq (v c : Byte) :
    ror8 v c =
      ⟨(v >>> 1) ||| BitVec.ofNat 8 ((ccrBit c .c).toNat * 128),
        shiftFlags8 ((v >>> 1) ||| BitVec.ofNat 8 ((ccrBit c .c).toNat * 128)) (v.getLsbD 0) c⟩ := by
  have h (k : Bool) : BitVec.ofNat 8 (v.toNat / 2 + k.toNat * 0x80) = (v >>> 1) ||| BitVec.ofNat 8 (k.toNat * 128) := by
    revert v k; decide
  simp only [ror8, h]

theorem asl16_eq (d : Word) (c : Byte) : asl16 d c = ⟨d <<< 1, shiftFlags16 (d <<< 1) (d.getLsbD 15) c⟩ := by
  have h : BitVec.ofNat 16 (d.toNat * 2) = d <<< 1 := by apply BitVec.eq_of_toNat_eq; simp [Nat.shiftLeft_eq]
  simp only [asl16, h]

theorem lsr16_eq (d : Word) (c : Byte) : lsr16 d c = ⟨d >>> 1, shiftFlags16 (d >>> 1) (d.getLsbD 0) c⟩ := by
  have h : BitVec.ofNat 16 (d.toNat / 2) = d >>> 1 := by
    apply BitVec.eq_of_toNat_eq; simp [Nat.shiftRight_eq_div_pow]; omega
  simp only [lsr16, h]

end Sys2Proof.Machine
end

