-- ==== Sys2Proof/Laws/Memory.lean ====
section
/-! SUPPORT. The memory's laws: a read after a write, and that a write keeps the canonical form. -/

namespace Sys2Proof.Machine

theorem Memory.read_erase (m : Memory) (a b : Nat) :
    (m.erase a).read b = if b = a then unlistedByte else m.read b := by
  induction m with
  | nil => simp [Memory.erase, Memory.read]
  | cons c rest ih =>
    obtain ⟨k, v⟩ := c
    simp only [Memory.erase, Memory.read]
    split <;> rename_i hk
    · rw [ih]
      by_cases h : b = a
      · simp [h]
      · simp [h, show ¬ k = b by omega]
    · by_cases h : b = a
      · subst h; simpa [Memory.read, hk] using ih
      · simp [Memory.read, ih, h]

theorem Memory.read_insert_erased (m : Memory) (a b : Nat) (v : Byte) :
    ((m.erase a).insert a v).read b = if b = a then v else m.read b := by
  induction m with
  | nil =>
    simp only [Memory.erase, Memory.insert, Memory.read]
    by_cases h : a = b
    · simp [h]
    · simp [h, Ne.symm h]
  | cons c rest ih =>
    obtain ⟨k, w⟩ := c
    simp only [Memory.erase, Memory.read]
    split <;> rename_i hk
    · rw [ih]
      by_cases h : b = a
      · simp [h]
      · simp [h, show ¬ k = b by omega]
    · simp only [Memory.insert]
      split
      · by_cases h : b = a
        · simp [Memory.read, h]
        · simp [Memory.read, Memory.read_erase, h, Ne.symm h]
      · by_cases h : b = a
        · subst h; simpa [Memory.read, hk] using ih
        · simp [Memory.read, ih, h]

/-- A read after a write: the byte written at the address, the old byte anywhere else. -/
@[simp] theorem Memory.read_write (m : Memory) (a b : Nat) (v : Byte) :
    (m.write a v).read b = if b = a then v else m.read b := by
  unfold Memory.write
  split
  · subst v; exact Memory.read_erase m a b
  · exact Memory.read_insert_erased m a b v

theorem Memory.wfAbove_mono {lo lo' : Option Nat} {m : Memory}
    (hlo : ∀ k, (∀ l', lo' = some l' → l' < k) → (∀ l, lo = some l → l < k))
    (h : Memory.wfAbove lo' m = true) : Memory.wfAbove lo m = true := by
  cases m with
  | nil => rfl
  | cons c rest =>
    obtain ⟨k, v⟩ := c
    simp only [Memory.wfAbove, Bool.and_eq_true] at h ⊢
    refine ⟨⟨⟨?_, h.1.1.2⟩, h.1.2⟩, h.2⟩
    have := hlo k (by intro l' e; subst e; simpa using h.1.1.1)
    cases lo with
    | none => rfl
    | some l => simpa using this l rfl

theorem Memory.wfAbove_erase {lo : Option Nat} {m : Memory} (a : Nat)
    (h : Memory.wfAbove lo m = true) : Memory.wfAbove lo (m.erase a) = true := by
  induction m generalizing lo with
  | nil => rfl
  | cons c rest ih =>
    obtain ⟨k, v⟩ := c
    have h' := h
    simp only [Memory.wfAbove, Bool.and_eq_true] at h
    simp only [Memory.erase]
    split
    · refine ih (Memory.wfAbove_mono ?_ h.2)
      intro j hj l e
      subst e
      have h1 : l < k := by simpa using h.1.1.1
      have h2 : k < j := hj k rfl
      omega
    · simp only [Memory.wfAbove, Bool.and_eq_true]
      exact ⟨h.1, ih h.2⟩

theorem Memory.wfAbove_insert {lo : Option Nat} {m : Memory} {a : Nat} {v : Byte}
    (h : Memory.wfAbove lo (m.erase a) = true) (hlo : ∀ l, lo = some l → l < a) (ha : a < 65536)
    (hv : v ≠ unlistedByte) : Memory.wfAbove lo ((m.erase a).insert a v) = true := by
  induction m generalizing lo with
  | nil =>
    simp only [Memory.erase, Memory.insert, Memory.wfAbove, Bool.and_eq_true, decide_eq_true_eq]
    refine ⟨⟨⟨?_, ha⟩, hv⟩, trivial⟩
    cases lo with
    | none => rfl
    | some l => simpa using hlo l rfl
  | cons c rest ih =>
    obtain ⟨k, w⟩ := c
    simp only [Memory.erase] at h ⊢
    split at h
    · rename_i hk; simp only [hk, if_true] at h ⊢; exact ih h hlo
    · rename_i hk
      simp only [hk, if_false, Memory.insert]
      simp only [Memory.wfAbove, Bool.and_eq_true] at h
      split
      · rename_i hak
        simp only [Memory.wfAbove, Bool.and_eq_true, decide_eq_true_eq]
        refine ⟨⟨⟨?_, ha⟩, hv⟩, ⟨⟨⟨hak, by simpa using h.1.1.2⟩, by simpa using h.1.2⟩, h.2⟩⟩
        cases lo with
        | none => rfl
        | some l => simpa using hlo l rfl
      · rename_i hak
        simp only [Memory.wfAbove, Bool.and_eq_true]
        exact ⟨h.1, ih h.2 (by intro l e; cases e; omega)⟩

/-- A write below 65536 keeps the canonical form. -/
theorem Memory.wf_write {m : Memory} {a : Nat} (v : Byte) (h : m.wf = true) (ha : a < 65536) :
    (m.write a v).wf = true := by
  unfold Memory.write Memory.wf at *
  split
  · exact Memory.wfAbove_erase a h
  · exact Memory.wfAbove_insert (Memory.wfAbove_erase a h) (by simp) ha ‹_›

end Sys2Proof.Machine
end

