-- ==== Sys2Proof/Laws/State.lean ====
section
/-! SUPPORT. One lemma per field per update: what each update writes and that it writes nothing else; then the same for the
views D, a flag, a byte and a word of memory. -/

namespace Sys2Proof.Machine

@[simp] theorem State.setA_a (s : State) (v : Byte) : (s.setA v).a = v := rfl
@[simp] theorem State.setA_b (s : State) (v : Byte) : (s.setA v).b = s.b := rfl
@[simp] theorem State.setA_x (s : State) (v : Byte) : (s.setA v).x = s.x := rfl
@[simp] theorem State.setA_y (s : State) (v : Byte) : (s.setA v).y = s.y := rfl
@[simp] theorem State.setA_sp (s : State) (v : Byte) : (s.setA v).sp = s.sp := rfl
@[simp] theorem State.setA_pc (s : State) (v : Byte) : (s.setA v).pc = s.pc := rfl
@[simp] theorem State.setA_ccr (s : State) (v : Byte) : (s.setA v).ccr = s.ccr := rfl
@[simp] theorem State.setA_cycles (s : State) (v : Byte) : (s.setA v).cycles = s.cycles := rfl
@[simp] theorem State.setA_lastPc (s : State) (v : Byte) : (s.setA v).lastPc = s.lastPc := rfl
@[simp] theorem State.setA_status (s : State) (v : Byte) : (s.setA v).status = s.status := rfl
@[simp] theorem State.setA_mem (s : State) (v : Byte) : (s.setA v).mem = s.mem := rfl
@[simp] theorem State.setA_bus (s : State) (v : Byte) : (s.setA v).bus = s.bus := rfl
@[simp] theorem State.setA_freeCount (s : State) (v : Byte) : (s.setA v).freeCount = s.freeCount := rfl
@[simp] theorem State.setA_flag (s : State) (v : Byte) (f : Flag) : (s.setA v).flag f = s.flag f := rfl
@[simp] theorem State.setA_byteAt (s : State) (v : Byte) (w : Word) : (s.setA v).byteAt w = s.byteAt w := rfl
@[simp] theorem State.setA_wordAt (s : State) (v : Byte) (w : Word) : (s.setA v).wordAt w = s.wordAt w := rfl

@[simp] theorem State.setB_a (s : State) (v : Byte) : (s.setB v).a = s.a := rfl
@[simp] theorem State.setB_b (s : State) (v : Byte) : (s.setB v).b = v := rfl
@[simp] theorem State.setB_x (s : State) (v : Byte) : (s.setB v).x = s.x := rfl
@[simp] theorem State.setB_y (s : State) (v : Byte) : (s.setB v).y = s.y := rfl
@[simp] theorem State.setB_sp (s : State) (v : Byte) : (s.setB v).sp = s.sp := rfl
@[simp] theorem State.setB_pc (s : State) (v : Byte) : (s.setB v).pc = s.pc := rfl
@[simp] theorem State.setB_ccr (s : State) (v : Byte) : (s.setB v).ccr = s.ccr := rfl
@[simp] theorem State.setB_cycles (s : State) (v : Byte) : (s.setB v).cycles = s.cycles := rfl
@[simp] theorem State.setB_lastPc (s : State) (v : Byte) : (s.setB v).lastPc = s.lastPc := rfl
@[simp] theorem State.setB_status (s : State) (v : Byte) : (s.setB v).status = s.status := rfl
@[simp] theorem State.setB_mem (s : State) (v : Byte) : (s.setB v).mem = s.mem := rfl
@[simp] theorem State.setB_bus (s : State) (v : Byte) : (s.setB v).bus = s.bus := rfl
@[simp] theorem State.setB_freeCount (s : State) (v : Byte) : (s.setB v).freeCount = s.freeCount := rfl
@[simp] theorem State.setB_flag (s : State) (v : Byte) (f : Flag) : (s.setB v).flag f = s.flag f := rfl
@[simp] theorem State.setB_byteAt (s : State) (v : Byte) (w : Word) : (s.setB v).byteAt w = s.byteAt w := rfl
@[simp] theorem State.setB_wordAt (s : State) (v : Byte) (w : Word) : (s.setB v).wordAt w = s.wordAt w := rfl

@[simp] theorem State.setX_a (s : State) (v : Word) : (s.setX v).a = s.a := rfl
@[simp] theorem State.setX_b (s : State) (v : Word) : (s.setX v).b = s.b := rfl
@[simp] theorem State.setX_x (s : State) (v : Word) : (s.setX v).x = v := rfl
@[simp] theorem State.setX_y (s : State) (v : Word) : (s.setX v).y = s.y := rfl
@[simp] theorem State.setX_sp (s : State) (v : Word) : (s.setX v).sp = s.sp := rfl
@[simp] theorem State.setX_pc (s : State) (v : Word) : (s.setX v).pc = s.pc := rfl
@[simp] theorem State.setX_ccr (s : State) (v : Word) : (s.setX v).ccr = s.ccr := rfl
@[simp] theorem State.setX_cycles (s : State) (v : Word) : (s.setX v).cycles = s.cycles := rfl
@[simp] theorem State.setX_lastPc (s : State) (v : Word) : (s.setX v).lastPc = s.lastPc := rfl
@[simp] theorem State.setX_status (s : State) (v : Word) : (s.setX v).status = s.status := rfl
@[simp] theorem State.setX_mem (s : State) (v : Word) : (s.setX v).mem = s.mem := rfl
@[simp] theorem State.setX_bus (s : State) (v : Word) : (s.setX v).bus = s.bus := rfl
@[simp] theorem State.setX_freeCount (s : State) (v : Word) : (s.setX v).freeCount = s.freeCount := rfl
@[simp] theorem State.setX_d (s : State) (v : Word) : (s.setX v).d = s.d := rfl
@[simp] theorem State.setX_flag (s : State) (v : Word) (f : Flag) : (s.setX v).flag f = s.flag f := rfl
@[simp] theorem State.setX_byteAt (s : State) (v : Word) (w : Word) : (s.setX v).byteAt w = s.byteAt w := rfl
@[simp] theorem State.setX_wordAt (s : State) (v : Word) (w : Word) : (s.setX v).wordAt w = s.wordAt w := rfl

@[simp] theorem State.setY_a (s : State) (v : Word) : (s.setY v).a = s.a := rfl
@[simp] theorem State.setY_b (s : State) (v : Word) : (s.setY v).b = s.b := rfl
@[simp] theorem State.setY_x (s : State) (v : Word) : (s.setY v).x = s.x := rfl
@[simp] theorem State.setY_y (s : State) (v : Word) : (s.setY v).y = v := rfl
@[simp] theorem State.setY_sp (s : State) (v : Word) : (s.setY v).sp = s.sp := rfl
@[simp] theorem State.setY_pc (s : State) (v : Word) : (s.setY v).pc = s.pc := rfl
@[simp] theorem State.setY_ccr (s : State) (v : Word) : (s.setY v).ccr = s.ccr := rfl
@[simp] theorem State.setY_cycles (s : State) (v : Word) : (s.setY v).cycles = s.cycles := rfl
@[simp] theorem State.setY_lastPc (s : State) (v : Word) : (s.setY v).lastPc = s.lastPc := rfl
@[simp] theorem State.setY_status (s : State) (v : Word) : (s.setY v).status = s.status := rfl
@[simp] theorem State.setY_mem (s : State) (v : Word) : (s.setY v).mem = s.mem := rfl
@[simp] theorem State.setY_bus (s : State) (v : Word) : (s.setY v).bus = s.bus := rfl
@[simp] theorem State.setY_freeCount (s : State) (v : Word) : (s.setY v).freeCount = s.freeCount := rfl
@[simp] theorem State.setY_d (s : State) (v : Word) : (s.setY v).d = s.d := rfl
@[simp] theorem State.setY_flag (s : State) (v : Word) (f : Flag) : (s.setY v).flag f = s.flag f := rfl
@[simp] theorem State.setY_byteAt (s : State) (v : Word) (w : Word) : (s.setY v).byteAt w = s.byteAt w := rfl
@[simp] theorem State.setY_wordAt (s : State) (v : Word) (w : Word) : (s.setY v).wordAt w = s.wordAt w := rfl

@[simp] theorem State.setSp_a (s : State) (v : Word) : (s.setSp v).a = s.a := rfl
@[simp] theorem State.setSp_b (s : State) (v : Word) : (s.setSp v).b = s.b := rfl
@[simp] theorem State.setSp_x (s : State) (v : Word) : (s.setSp v).x = s.x := rfl
@[simp] theorem State.setSp_y (s : State) (v : Word) : (s.setSp v).y = s.y := rfl
@[simp] theorem State.setSp_sp (s : State) (v : Word) : (s.setSp v).sp = v := rfl
@[simp] theorem State.setSp_pc (s : State) (v : Word) : (s.setSp v).pc = s.pc := rfl
@[simp] theorem State.setSp_ccr (s : State) (v : Word) : (s.setSp v).ccr = s.ccr := rfl
@[simp] theorem State.setSp_cycles (s : State) (v : Word) : (s.setSp v).cycles = s.cycles := rfl
@[simp] theorem State.setSp_lastPc (s : State) (v : Word) : (s.setSp v).lastPc = s.lastPc := rfl
@[simp] theorem State.setSp_status (s : State) (v : Word) : (s.setSp v).status = s.status := rfl
@[simp] theorem State.setSp_mem (s : State) (v : Word) : (s.setSp v).mem = s.mem := rfl
@[simp] theorem State.setSp_bus (s : State) (v : Word) : (s.setSp v).bus = s.bus := rfl
@[simp] theorem State.setSp_freeCount (s : State) (v : Word) : (s.setSp v).freeCount = s.freeCount := rfl
@[simp] theorem State.setSp_d (s : State) (v : Word) : (s.setSp v).d = s.d := rfl
@[simp] theorem State.setSp_flag (s : State) (v : Word) (f : Flag) : (s.setSp v).flag f = s.flag f := rfl
@[simp] theorem State.setSp_byteAt (s : State) (v : Word) (w : Word) : (s.setSp v).byteAt w = s.byteAt w := rfl
@[simp] theorem State.setSp_wordAt (s : State) (v : Word) (w : Word) : (s.setSp v).wordAt w = s.wordAt w := rfl

@[simp] theorem State.setPc_a (s : State) (v : Word) : (s.setPc v).a = s.a := rfl
@[simp] theorem State.setPc_b (s : State) (v : Word) : (s.setPc v).b = s.b := rfl
@[simp] theorem State.setPc_x (s : State) (v : Word) : (s.setPc v).x = s.x := rfl
@[simp] theorem State.setPc_y (s : State) (v : Word) : (s.setPc v).y = s.y := rfl
@[simp] theorem State.setPc_sp (s : State) (v : Word) : (s.setPc v).sp = s.sp := rfl
@[simp] theorem State.setPc_pc (s : State) (v : Word) : (s.setPc v).pc = v := rfl
@[simp] theorem State.setPc_ccr (s : State) (v : Word) : (s.setPc v).ccr = s.ccr := rfl
@[simp] theorem State.setPc_cycles (s : State) (v : Word) : (s.setPc v).cycles = s.cycles := rfl
@[simp] theorem State.setPc_lastPc (s : State) (v : Word) : (s.setPc v).lastPc = s.lastPc := rfl
@[simp] theorem State.setPc_status (s : State) (v : Word) : (s.setPc v).status = s.status := rfl
@[simp] theorem State.setPc_mem (s : State) (v : Word) : (s.setPc v).mem = s.mem := rfl
@[simp] theorem State.setPc_bus (s : State) (v : Word) : (s.setPc v).bus = s.bus := rfl
@[simp] theorem State.setPc_freeCount (s : State) (v : Word) : (s.setPc v).freeCount = s.freeCount := rfl
@[simp] theorem State.setPc_d (s : State) (v : Word) : (s.setPc v).d = s.d := rfl
@[simp] theorem State.setPc_flag (s : State) (v : Word) (f : Flag) : (s.setPc v).flag f = s.flag f := rfl
@[simp] theorem State.setPc_byteAt (s : State) (v : Word) (w : Word) : (s.setPc v).byteAt w = s.byteAt w := rfl
@[simp] theorem State.setPc_wordAt (s : State) (v : Word) (w : Word) : (s.setPc v).wordAt w = s.wordAt w := rfl

@[simp] theorem State.setCcr_a (s : State) (v : Byte) : (s.setCcr v).a = s.a := rfl
@[simp] theorem State.setCcr_b (s : State) (v : Byte) : (s.setCcr v).b = s.b := rfl
@[simp] theorem State.setCcr_x (s : State) (v : Byte) : (s.setCcr v).x = s.x := rfl
@[simp] theorem State.setCcr_y (s : State) (v : Byte) : (s.setCcr v).y = s.y := rfl
@[simp] theorem State.setCcr_sp (s : State) (v : Byte) : (s.setCcr v).sp = s.sp := rfl
@[simp] theorem State.setCcr_pc (s : State) (v : Byte) : (s.setCcr v).pc = s.pc := rfl
@[simp] theorem State.setCcr_ccr (s : State) (v : Byte) : (s.setCcr v).ccr = v := rfl
@[simp] theorem State.setCcr_cycles (s : State) (v : Byte) : (s.setCcr v).cycles = s.cycles := rfl
@[simp] theorem State.setCcr_lastPc (s : State) (v : Byte) : (s.setCcr v).lastPc = s.lastPc := rfl
@[simp] theorem State.setCcr_status (s : State) (v : Byte) : (s.setCcr v).status = s.status := rfl
@[simp] theorem State.setCcr_mem (s : State) (v : Byte) : (s.setCcr v).mem = s.mem := rfl
@[simp] theorem State.setCcr_bus (s : State) (v : Byte) : (s.setCcr v).bus = s.bus := rfl
@[simp] theorem State.setCcr_freeCount (s : State) (v : Byte) : (s.setCcr v).freeCount = s.freeCount := rfl
@[simp] theorem State.setCcr_d (s : State) (v : Byte) : (s.setCcr v).d = s.d := rfl
@[simp] theorem State.setCcr_byteAt (s : State) (v : Byte) (w : Word) : (s.setCcr v).byteAt w = s.byteAt w := rfl
@[simp] theorem State.setCcr_wordAt (s : State) (v : Byte) (w : Word) : (s.setCcr v).wordAt w = s.wordAt w := rfl

@[simp] theorem State.setCycles_a (s : State) (v : BitVec 64) : (s.setCycles v).a = s.a := rfl
@[simp] theorem State.setCycles_b (s : State) (v : BitVec 64) : (s.setCycles v).b = s.b := rfl
@[simp] theorem State.setCycles_x (s : State) (v : BitVec 64) : (s.setCycles v).x = s.x := rfl
@[simp] theorem State.setCycles_y (s : State) (v : BitVec 64) : (s.setCycles v).y = s.y := rfl
@[simp] theorem State.setCycles_sp (s : State) (v : BitVec 64) : (s.setCycles v).sp = s.sp := rfl
@[simp] theorem State.setCycles_pc (s : State) (v : BitVec 64) : (s.setCycles v).pc = s.pc := rfl
@[simp] theorem State.setCycles_ccr (s : State) (v : BitVec 64) : (s.setCycles v).ccr = s.ccr := rfl
@[simp] theorem State.setCycles_cycles (s : State) (v : BitVec 64) : (s.setCycles v).cycles = v := rfl
@[simp] theorem State.setCycles_lastPc (s : State) (v : BitVec 64) : (s.setCycles v).lastPc = s.lastPc := rfl
@[simp] theorem State.setCycles_status (s : State) (v : BitVec 64) : (s.setCycles v).status = s.status := rfl
@[simp] theorem State.setCycles_mem (s : State) (v : BitVec 64) : (s.setCycles v).mem = s.mem := rfl
@[simp] theorem State.setCycles_bus (s : State) (v : BitVec 64) : (s.setCycles v).bus = s.bus := rfl
@[simp] theorem State.setCycles_freeCount (s : State) (v : BitVec 64) : (s.setCycles v).freeCount = s.freeCount := rfl
@[simp] theorem State.setCycles_d (s : State) (v : BitVec 64) : (s.setCycles v).d = s.d := rfl
@[simp] theorem State.setCycles_flag (s : State) (v : BitVec 64) (f : Flag) : (s.setCycles v).flag f = s.flag f := rfl
@[simp] theorem State.setCycles_byteAt (s : State) (v : BitVec 64) (w : Word) : (s.setCycles v).byteAt w = s.byteAt w := rfl
@[simp] theorem State.setCycles_wordAt (s : State) (v : BitVec 64) (w : Word) : (s.setCycles v).wordAt w = s.wordAt w := rfl

@[simp] theorem State.setLastPc_a (s : State) (v : Word) : (s.setLastPc v).a = s.a := rfl
@[simp] theorem State.setLastPc_b (s : State) (v : Word) : (s.setLastPc v).b = s.b := rfl
@[simp] theorem State.setLastPc_x (s : State) (v : Word) : (s.setLastPc v).x = s.x := rfl
@[simp] theorem State.setLastPc_y (s : State) (v : Word) : (s.setLastPc v).y = s.y := rfl
@[simp] theorem State.setLastPc_sp (s : State) (v : Word) : (s.setLastPc v).sp = s.sp := rfl
@[simp] theorem State.setLastPc_pc (s : State) (v : Word) : (s.setLastPc v).pc = s.pc := rfl
@[simp] theorem State.setLastPc_ccr (s : State) (v : Word) : (s.setLastPc v).ccr = s.ccr := rfl
@[simp] theorem State.setLastPc_cycles (s : State) (v : Word) : (s.setLastPc v).cycles = s.cycles := rfl
@[simp] theorem State.setLastPc_lastPc (s : State) (v : Word) : (s.setLastPc v).lastPc = v := rfl
@[simp] theorem State.setLastPc_status (s : State) (v : Word) : (s.setLastPc v).status = s.status := rfl
@[simp] theorem State.setLastPc_mem (s : State) (v : Word) : (s.setLastPc v).mem = s.mem := rfl
@[simp] theorem State.setLastPc_bus (s : State) (v : Word) : (s.setLastPc v).bus = s.bus := rfl
@[simp] theorem State.setLastPc_freeCount (s : State) (v : Word) : (s.setLastPc v).freeCount = s.freeCount := rfl
@[simp] theorem State.setLastPc_d (s : State) (v : Word) : (s.setLastPc v).d = s.d := rfl
@[simp] theorem State.setLastPc_flag (s : State) (v : Word) (f : Flag) : (s.setLastPc v).flag f = s.flag f := rfl
@[simp] theorem State.setLastPc_byteAt (s : State) (v : Word) (w : Word) : (s.setLastPc v).byteAt w = s.byteAt w := rfl
@[simp] theorem State.setLastPc_wordAt (s : State) (v : Word) (w : Word) : (s.setLastPc v).wordAt w = s.wordAt w := rfl

@[simp] theorem State.setStatus_a (s : State) (v : Status) : (s.setStatus v).a = s.a := rfl
@[simp] theorem State.setStatus_b (s : State) (v : Status) : (s.setStatus v).b = s.b := rfl
@[simp] theorem State.setStatus_x (s : State) (v : Status) : (s.setStatus v).x = s.x := rfl
@[simp] theorem State.setStatus_y (s : State) (v : Status) : (s.setStatus v).y = s.y := rfl
@[simp] theorem State.setStatus_sp (s : State) (v : Status) : (s.setStatus v).sp = s.sp := rfl
@[simp] theorem State.setStatus_pc (s : State) (v : Status) : (s.setStatus v).pc = s.pc := rfl
@[simp] theorem State.setStatus_ccr (s : State) (v : Status) : (s.setStatus v).ccr = s.ccr := rfl
@[simp] theorem State.setStatus_cycles (s : State) (v : Status) : (s.setStatus v).cycles = s.cycles := rfl
@[simp] theorem State.setStatus_lastPc (s : State) (v : Status) : (s.setStatus v).lastPc = s.lastPc := rfl
@[simp] theorem State.setStatus_status (s : State) (v : Status) : (s.setStatus v).status = v := rfl
@[simp] theorem State.setStatus_mem (s : State) (v : Status) : (s.setStatus v).mem = s.mem := rfl
@[simp] theorem State.setStatus_bus (s : State) (v : Status) : (s.setStatus v).bus = s.bus := rfl
@[simp] theorem State.setStatus_freeCount (s : State) (v : Status) : (s.setStatus v).freeCount = s.freeCount := rfl
@[simp] theorem State.setStatus_d (s : State) (v : Status) : (s.setStatus v).d = s.d := rfl
@[simp] theorem State.setStatus_flag (s : State) (v : Status) (f : Flag) : (s.setStatus v).flag f = s.flag f := rfl
@[simp] theorem State.setStatus_byteAt (s : State) (v : Status) (w : Word) : (s.setStatus v).byteAt w = s.byteAt w := rfl
@[simp] theorem State.setStatus_wordAt (s : State) (v : Status) (w : Word) : (s.setStatus v).wordAt w = s.wordAt w := rfl

@[simp] theorem State.setMem_a (s : State) (v : Memory) : (s.setMem v).a = s.a := rfl
@[simp] theorem State.setMem_b (s : State) (v : Memory) : (s.setMem v).b = s.b := rfl
@[simp] theorem State.setMem_x (s : State) (v : Memory) : (s.setMem v).x = s.x := rfl
@[simp] theorem State.setMem_y (s : State) (v : Memory) : (s.setMem v).y = s.y := rfl
@[simp] theorem State.setMem_sp (s : State) (v : Memory) : (s.setMem v).sp = s.sp := rfl
@[simp] theorem State.setMem_pc (s : State) (v : Memory) : (s.setMem v).pc = s.pc := rfl
@[simp] theorem State.setMem_ccr (s : State) (v : Memory) : (s.setMem v).ccr = s.ccr := rfl
@[simp] theorem State.setMem_cycles (s : State) (v : Memory) : (s.setMem v).cycles = s.cycles := rfl
@[simp] theorem State.setMem_lastPc (s : State) (v : Memory) : (s.setMem v).lastPc = s.lastPc := rfl
@[simp] theorem State.setMem_status (s : State) (v : Memory) : (s.setMem v).status = s.status := rfl
@[simp] theorem State.setMem_mem (s : State) (v : Memory) : (s.setMem v).mem = v := rfl
@[simp] theorem State.setMem_bus (s : State) (v : Memory) : (s.setMem v).bus = s.bus := rfl
@[simp] theorem State.setMem_freeCount (s : State) (v : Memory) : (s.setMem v).freeCount = s.freeCount := rfl
@[simp] theorem State.setMem_d (s : State) (v : Memory) : (s.setMem v).d = s.d := rfl
@[simp] theorem State.setMem_flag (s : State) (v : Memory) (f : Flag) : (s.setMem v).flag f = s.flag f := rfl

@[simp] theorem State.setBus_a (s : State) (v : Bus) : (s.setBus v).a = s.a := rfl
@[simp] theorem State.setBus_b (s : State) (v : Bus) : (s.setBus v).b = s.b := rfl
@[simp] theorem State.setBus_x (s : State) (v : Bus) : (s.setBus v).x = s.x := rfl
@[simp] theorem State.setBus_y (s : State) (v : Bus) : (s.setBus v).y = s.y := rfl
@[simp] theorem State.setBus_sp (s : State) (v : Bus) : (s.setBus v).sp = s.sp := rfl
@[simp] theorem State.setBus_pc (s : State) (v : Bus) : (s.setBus v).pc = s.pc := rfl
@[simp] theorem State.setBus_ccr (s : State) (v : Bus) : (s.setBus v).ccr = s.ccr := rfl
@[simp] theorem State.setBus_cycles (s : State) (v : Bus) : (s.setBus v).cycles = s.cycles := rfl
@[simp] theorem State.setBus_lastPc (s : State) (v : Bus) : (s.setBus v).lastPc = s.lastPc := rfl
@[simp] theorem State.setBus_status (s : State) (v : Bus) : (s.setBus v).status = s.status := rfl
@[simp] theorem State.setBus_mem (s : State) (v : Bus) : (s.setBus v).mem = s.mem := rfl
@[simp] theorem State.setBus_bus (s : State) (v : Bus) : (s.setBus v).bus = v := rfl
@[simp] theorem State.setBus_freeCount (s : State) (v : Bus) : (s.setBus v).freeCount = s.freeCount := rfl
@[simp] theorem State.setBus_d (s : State) (v : Bus) : (s.setBus v).d = s.d := rfl
@[simp] theorem State.setBus_flag (s : State) (v : Bus) (f : Flag) : (s.setBus v).flag f = s.flag f := rfl
@[simp] theorem State.setBus_byteAt (s : State) (v : Bus) (w : Word) : (s.setBus v).byteAt w = s.byteAt w := rfl
@[simp] theorem State.setBus_wordAt (s : State) (v : Bus) (w : Word) : (s.setBus v).wordAt w = s.wordAt w := rfl

@[simp] theorem State.setFreeCount_a (s : State) (v : Nat) : (s.setFreeCount v).a = s.a := rfl
@[simp] theorem State.setFreeCount_b (s : State) (v : Nat) : (s.setFreeCount v).b = s.b := rfl
@[simp] theorem State.setFreeCount_x (s : State) (v : Nat) : (s.setFreeCount v).x = s.x := rfl
@[simp] theorem State.setFreeCount_y (s : State) (v : Nat) : (s.setFreeCount v).y = s.y := rfl
@[simp] theorem State.setFreeCount_sp (s : State) (v : Nat) : (s.setFreeCount v).sp = s.sp := rfl
@[simp] theorem State.setFreeCount_pc (s : State) (v : Nat) : (s.setFreeCount v).pc = s.pc := rfl
@[simp] theorem State.setFreeCount_ccr (s : State) (v : Nat) : (s.setFreeCount v).ccr = s.ccr := rfl
@[simp] theorem State.setFreeCount_cycles (s : State) (v : Nat) : (s.setFreeCount v).cycles = s.cycles := rfl
@[simp] theorem State.setFreeCount_lastPc (s : State) (v : Nat) : (s.setFreeCount v).lastPc = s.lastPc := rfl
@[simp] theorem State.setFreeCount_status (s : State) (v : Nat) : (s.setFreeCount v).status = s.status := rfl
@[simp] theorem State.setFreeCount_mem (s : State) (v : Nat) : (s.setFreeCount v).mem = s.mem := rfl
@[simp] theorem State.setFreeCount_bus (s : State) (v : Nat) : (s.setFreeCount v).bus = s.bus := rfl
@[simp] theorem State.setFreeCount_freeCount (s : State) (v : Nat) : (s.setFreeCount v).freeCount = v := rfl
@[simp] theorem State.setFreeCount_d (s : State) (v : Nat) : (s.setFreeCount v).d = s.d := rfl
@[simp] theorem State.setFreeCount_flag (s : State) (v : Nat) (f : Flag) : (s.setFreeCount v).flag f = s.flag f := rfl
@[simp] theorem State.setFreeCount_byteAt (s : State) (v : Nat) (w : Word) : (s.setFreeCount v).byteAt w = s.byteAt w := rfl
@[simp] theorem State.setFreeCount_wordAt (s : State) (v : Nat) (w : Word) : (s.setFreeCount v).wordAt w = s.wordAt w := rfl

@[simp] theorem State.setCcr_flag (s : State) (v : Byte) (f : Flag) : (s.setCcr v).flag f = ccrBit v f := rfl
@[simp] theorem State.setMem_byteAt (s : State) (m : Memory) (w : Word) : (s.setMem m).byteAt w = m.read w.toNat := rfl

end Sys2Proof.Machine
end

