-- ==== Sys2Proof/Laws/Ops.lean ====
section
/-! SUPPORT. What each shared operation does: the fields it leaves alone (each from the operations it is made of), then, once for each operation, the
values it gives, what it stores, where SP goes, what the bus keeps. -/

namespace Sys2Proof.Machine

@[simp] theorem State.setD_x (s : State) (v : Word) : (s.setD v).x = s.x := rfl
@[simp] theorem State.setD_y (s : State) (v : Word) : (s.setD v).y = s.y := rfl
@[simp] theorem State.setD_sp (s : State) (v : Word) : (s.setD v).sp = s.sp := rfl
@[simp] theorem State.setD_pc (s : State) (v : Word) : (s.setD v).pc = s.pc := rfl
@[simp] theorem State.setD_ccr (s : State) (v : Word) : (s.setD v).ccr = s.ccr := rfl
@[simp] theorem State.setD_cycles (s : State) (v : Word) : (s.setD v).cycles = s.cycles := rfl
@[simp] theorem State.setD_lastPc (s : State) (v : Word) : (s.setD v).lastPc = s.lastPc := rfl
@[simp] theorem State.setD_status (s : State) (v : Word) : (s.setD v).status = s.status := rfl
@[simp] theorem State.setD_mem (s : State) (v : Word) : (s.setD v).mem = s.mem := rfl
@[simp] theorem State.setD_bus (s : State) (v : Word) : (s.setD v).bus = s.bus := rfl
@[simp] theorem State.setD_freeCount (s : State) (v : Word) : (s.setD v).freeCount = s.freeCount := rfl
@[simp] theorem State.setD_flag (s : State) (v : Word) (f : Flag) : (s.setD v).flag f = s.flag f := rfl
@[simp] theorem State.setD_byteAt (s : State) (v : Word) (w : Word) : (s.setD v).byteAt w = s.byteAt w := rfl
@[simp] theorem State.setD_wordAt (s : State) (v : Word) (w : Word) : (s.setD v).wordAt w = s.wordAt w := rfl

@[simp] theorem State.putFlag_a (s : State) (g : Flag) (v : Bool) : (s.putFlag g v).a = s.a := rfl
@[simp] theorem State.putFlag_b (s : State) (g : Flag) (v : Bool) : (s.putFlag g v).b = s.b := rfl
@[simp] theorem State.putFlag_x (s : State) (g : Flag) (v : Bool) : (s.putFlag g v).x = s.x := rfl
@[simp] theorem State.putFlag_y (s : State) (g : Flag) (v : Bool) : (s.putFlag g v).y = s.y := rfl
@[simp] theorem State.putFlag_sp (s : State) (g : Flag) (v : Bool) : (s.putFlag g v).sp = s.sp := rfl
@[simp] theorem State.putFlag_pc (s : State) (g : Flag) (v : Bool) : (s.putFlag g v).pc = s.pc := rfl
@[simp] theorem State.putFlag_cycles (s : State) (g : Flag) (v : Bool) : (s.putFlag g v).cycles = s.cycles := rfl
@[simp] theorem State.putFlag_lastPc (s : State) (g : Flag) (v : Bool) : (s.putFlag g v).lastPc = s.lastPc := rfl
@[simp] theorem State.putFlag_status (s : State) (g : Flag) (v : Bool) : (s.putFlag g v).status = s.status := rfl
@[simp] theorem State.putFlag_mem (s : State) (g : Flag) (v : Bool) : (s.putFlag g v).mem = s.mem := rfl
@[simp] theorem State.putFlag_bus (s : State) (g : Flag) (v : Bool) : (s.putFlag g v).bus = s.bus := rfl
@[simp] theorem State.putFlag_freeCount (s : State) (g : Flag) (v : Bool) : (s.putFlag g v).freeCount = s.freeCount := rfl
@[simp] theorem State.putFlag_d (s : State) (g : Flag) (v : Bool) : (s.putFlag g v).d = s.d := rfl
@[simp] theorem State.putFlag_byteAt (s : State) (g : Flag) (v : Bool) (w : Word) : (s.putFlag g v).byteAt w = s.byteAt w := rfl
@[simp] theorem State.putFlag_wordAt (s : State) (g : Flag) (v : Bool) (w : Word) : (s.putFlag g v).wordAt w = s.wordAt w := rfl

@[simp] theorem State.access_a (s : State) (k : BusKind) (p : Word) (v : Byte) : (s.access k p v).a = s.a := rfl
@[simp] theorem State.access_b (s : State) (k : BusKind) (p : Word) (v : Byte) : (s.access k p v).b = s.b := rfl
@[simp] theorem State.access_x (s : State) (k : BusKind) (p : Word) (v : Byte) : (s.access k p v).x = s.x := rfl
@[simp] theorem State.access_y (s : State) (k : BusKind) (p : Word) (v : Byte) : (s.access k p v).y = s.y := rfl
@[simp] theorem State.access_sp (s : State) (k : BusKind) (p : Word) (v : Byte) : (s.access k p v).sp = s.sp := rfl
@[simp] theorem State.access_pc (s : State) (k : BusKind) (p : Word) (v : Byte) : (s.access k p v).pc = s.pc := rfl
@[simp] theorem State.access_ccr (s : State) (k : BusKind) (p : Word) (v : Byte) : (s.access k p v).ccr = s.ccr := rfl
@[simp] theorem State.access_cycles (s : State) (k : BusKind) (p : Word) (v : Byte) : (s.access k p v).cycles = s.cycles := rfl
@[simp] theorem State.access_lastPc (s : State) (k : BusKind) (p : Word) (v : Byte) : (s.access k p v).lastPc = s.lastPc := rfl
@[simp] theorem State.access_status (s : State) (k : BusKind) (p : Word) (v : Byte) : (s.access k p v).status = s.status := rfl
@[simp] theorem State.access_mem (s : State) (k : BusKind) (p : Word) (v : Byte) : (s.access k p v).mem = s.mem := rfl
@[simp] theorem State.access_freeCount (s : State) (k : BusKind) (p : Word) (v : Byte) : (s.access k p v).freeCount = s.freeCount := rfl
@[simp] theorem State.access_d (s : State) (k : BusKind) (p : Word) (v : Byte) : (s.access k p v).d = s.d := rfl
@[simp] theorem State.access_flag (s : State) (k : BusKind) (p : Word) (v : Byte) (f : Flag) : (s.access k p v).flag f = s.flag f := rfl
@[simp] theorem State.access_byteAt (s : State) (k : BusKind) (p : Word) (v : Byte) (w : Word) : (s.access k p v).byteAt w = s.byteAt w := rfl
@[simp] theorem State.access_wordAt (s : State) (k : BusKind) (p : Word) (v : Byte) (w : Word) : (s.access k p v).wordAt w = s.wordAt w := rfl

@[simp] theorem State.emit_a (s : State) (e : Event) : (s.emit e).a = s.a := rfl
@[simp] theorem State.emit_b (s : State) (e : Event) : (s.emit e).b = s.b := rfl
@[simp] theorem State.emit_x (s : State) (e : Event) : (s.emit e).x = s.x := rfl
@[simp] theorem State.emit_y (s : State) (e : Event) : (s.emit e).y = s.y := rfl
@[simp] theorem State.emit_sp (s : State) (e : Event) : (s.emit e).sp = s.sp := rfl
@[simp] theorem State.emit_pc (s : State) (e : Event) : (s.emit e).pc = s.pc := rfl
@[simp] theorem State.emit_ccr (s : State) (e : Event) : (s.emit e).ccr = s.ccr := rfl
@[simp] theorem State.emit_cycles (s : State) (e : Event) : (s.emit e).cycles = s.cycles := rfl
@[simp] theorem State.emit_lastPc (s : State) (e : Event) : (s.emit e).lastPc = s.lastPc := rfl
@[simp] theorem State.emit_status (s : State) (e : Event) : (s.emit e).status = s.status := rfl
@[simp] theorem State.emit_mem (s : State) (e : Event) : (s.emit e).mem = s.mem := rfl
@[simp] theorem State.emit_freeCount (s : State) (e : Event) : (s.emit e).freeCount = s.freeCount := rfl
@[simp] theorem State.emit_d (s : State) (e : Event) : (s.emit e).d = s.d := rfl
@[simp] theorem State.emit_flag (s : State) (e : Event) (f : Flag) : (s.emit e).flag f = s.flag f := rfl
@[simp] theorem State.emit_byteAt (s : State) (e : Event) (w : Word) : (s.emit e).byteAt w = s.byteAt w := rfl
@[simp] theorem State.emit_wordAt (s : State) (e : Event) (w : Word) : (s.emit e).wordAt w = s.wordAt w := rfl

@[simp] theorem State.storeSilent_a (s : State) (p : Word) (v : Byte) : (s.storeSilent p v).a = s.a := rfl
@[simp] theorem State.storeSilent_b (s : State) (p : Word) (v : Byte) : (s.storeSilent p v).b = s.b := rfl
@[simp] theorem State.storeSilent_x (s : State) (p : Word) (v : Byte) : (s.storeSilent p v).x = s.x := rfl
@[simp] theorem State.storeSilent_y (s : State) (p : Word) (v : Byte) : (s.storeSilent p v).y = s.y := rfl
@[simp] theorem State.storeSilent_sp (s : State) (p : Word) (v : Byte) : (s.storeSilent p v).sp = s.sp := rfl
@[simp] theorem State.storeSilent_pc (s : State) (p : Word) (v : Byte) : (s.storeSilent p v).pc = s.pc := rfl
@[simp] theorem State.storeSilent_ccr (s : State) (p : Word) (v : Byte) : (s.storeSilent p v).ccr = s.ccr := rfl
@[simp] theorem State.storeSilent_cycles (s : State) (p : Word) (v : Byte) : (s.storeSilent p v).cycles = s.cycles := rfl
@[simp] theorem State.storeSilent_lastPc (s : State) (p : Word) (v : Byte) : (s.storeSilent p v).lastPc = s.lastPc := rfl
@[simp] theorem State.storeSilent_status (s : State) (p : Word) (v : Byte) : (s.storeSilent p v).status = s.status := rfl
@[simp] theorem State.storeSilent_bus (s : State) (p : Word) (v : Byte) : (s.storeSilent p v).bus = s.bus := rfl
@[simp] theorem State.storeSilent_freeCount (s : State) (p : Word) (v : Byte) : (s.storeSilent p v).freeCount = s.freeCount := rfl
@[simp] theorem State.storeSilent_d (s : State) (p : Word) (v : Byte) : (s.storeSilent p v).d = s.d := rfl
@[simp] theorem State.storeSilent_flag (s : State) (p : Word) (v : Byte) (f : Flag) : (s.storeSilent p v).flag f = s.flag f := rfl

@[simp] theorem memRead8_a (s : State) (p : Word) : ((memRead8 p s).2).a = s.a := rfl
@[simp] theorem memRead8_b (s : State) (p : Word) : ((memRead8 p s).2).b = s.b := rfl
@[simp] theorem memRead8_x (s : State) (p : Word) : ((memRead8 p s).2).x = s.x := rfl
@[simp] theorem memRead8_y (s : State) (p : Word) : ((memRead8 p s).2).y = s.y := rfl
@[simp] theorem memRead8_sp (s : State) (p : Word) : ((memRead8 p s).2).sp = s.sp := rfl
@[simp] theorem memRead8_pc (s : State) (p : Word) : ((memRead8 p s).2).pc = s.pc := rfl
@[simp] theorem memRead8_ccr (s : State) (p : Word) : ((memRead8 p s).2).ccr = s.ccr := rfl
@[simp] theorem memRead8_cycles (s : State) (p : Word) : ((memRead8 p s).2).cycles = s.cycles := rfl
@[simp] theorem memRead8_lastPc (s : State) (p : Word) : ((memRead8 p s).2).lastPc = s.lastPc := rfl
@[simp] theorem memRead8_status (s : State) (p : Word) : ((memRead8 p s).2).status = s.status := rfl
@[simp] theorem memRead8_mem (s : State) (p : Word) : ((memRead8 p s).2).mem = s.mem := rfl
@[simp] theorem memRead8_freeCount (s : State) (p : Word) : ((memRead8 p s).2).freeCount = s.freeCount := rfl
@[simp] theorem memRead8_d (s : State) (p : Word) : ((memRead8 p s).2).d = s.d := rfl
@[simp] theorem memRead8_flag (s : State) (p : Word) (f : Flag) : ((memRead8 p s).2).flag f = s.flag f := rfl
@[simp] theorem memRead8_byteAt (s : State) (p : Word) (w : Word) : ((memRead8 p s).2).byteAt w = s.byteAt w := rfl
@[simp] theorem memRead8_wordAt (s : State) (p : Word) (w : Word) : ((memRead8 p s).2).wordAt w = s.wordAt w := rfl

@[simp] theorem memRead16_a (s : State) (p : Word) : ((memRead16 p s).2).a = s.a := by simp [memRead16]
@[simp] theorem memRead16_b (s : State) (p : Word) : ((memRead16 p s).2).b = s.b := by simp [memRead16]
@[simp] theorem memRead16_x (s : State) (p : Word) : ((memRead16 p s).2).x = s.x := by simp [memRead16]
@[simp] theorem memRead16_y (s : State) (p : Word) : ((memRead16 p s).2).y = s.y := by simp [memRead16]
@[simp] theorem memRead16_sp (s : State) (p : Word) : ((memRead16 p s).2).sp = s.sp := by simp [memRead16]
@[simp] theorem memRead16_pc (s : State) (p : Word) : ((memRead16 p s).2).pc = s.pc := by simp [memRead16]
@[simp] theorem memRead16_ccr (s : State) (p : Word) : ((memRead16 p s).2).ccr = s.ccr := by simp [memRead16]
@[simp] theorem memRead16_cycles (s : State) (p : Word) : ((memRead16 p s).2).cycles = s.cycles := by simp [memRead16]
@[simp] theorem memRead16_lastPc (s : State) (p : Word) : ((memRead16 p s).2).lastPc = s.lastPc := by simp [memRead16]
@[simp] theorem memRead16_status (s : State) (p : Word) : ((memRead16 p s).2).status = s.status := by simp [memRead16]
@[simp] theorem memRead16_mem (s : State) (p : Word) : ((memRead16 p s).2).mem = s.mem := by simp [memRead16]
@[simp] theorem memRead16_freeCount (s : State) (p : Word) : ((memRead16 p s).2).freeCount = s.freeCount := by simp [memRead16]
@[simp] theorem memRead16_d (s : State) (p : Word) : ((memRead16 p s).2).d = s.d := by simp [State.d]
@[simp] theorem memRead16_flag (s : State) (p : Word) (f : Flag) : ((memRead16 p s).2).flag f = s.flag f := by simp [State.flag]
@[simp] theorem memRead16_byteAt (s : State) (p : Word) (w : Word) : ((memRead16 p s).2).byteAt w = s.byteAt w := by simp [State.byteAt]
@[simp] theorem memRead16_wordAt (s : State) (p : Word) (w : Word) : ((memRead16 p s).2).wordAt w = s.wordAt w := by simp [State.wordAt]

@[simp] theorem memWrite8_a (s : State) (p : Word) (v : Byte) : (memWrite8 p v s).a = s.a := rfl
@[simp] theorem memWrite8_b (s : State) (p : Word) (v : Byte) : (memWrite8 p v s).b = s.b := rfl
@[simp] theorem memWrite8_x (s : State) (p : Word) (v : Byte) : (memWrite8 p v s).x = s.x := rfl
@[simp] theorem memWrite8_y (s : State) (p : Word) (v : Byte) : (memWrite8 p v s).y = s.y := rfl
@[simp] theorem memWrite8_sp (s : State) (p : Word) (v : Byte) : (memWrite8 p v s).sp = s.sp := rfl
@[simp] theorem memWrite8_pc (s : State) (p : Word) (v : Byte) : (memWrite8 p v s).pc = s.pc := rfl
@[simp] theorem memWrite8_ccr (s : State) (p : Word) (v : Byte) : (memWrite8 p v s).ccr = s.ccr := rfl
@[simp] theorem memWrite8_cycles (s : State) (p : Word) (v : Byte) : (memWrite8 p v s).cycles = s.cycles := rfl
@[simp] theorem memWrite8_lastPc (s : State) (p : Word) (v : Byte) : (memWrite8 p v s).lastPc = s.lastPc := rfl
@[simp] theorem memWrite8_status (s : State) (p : Word) (v : Byte) : (memWrite8 p v s).status = s.status := rfl
@[simp] theorem memWrite8_freeCount (s : State) (p : Word) (v : Byte) : (memWrite8 p v s).freeCount = s.freeCount := rfl
@[simp] theorem memWrite8_d (s : State) (p : Word) (v : Byte) : (memWrite8 p v s).d = s.d := rfl
@[simp] theorem memWrite8_flag (s : State) (p : Word) (v : Byte) (f : Flag) : (memWrite8 p v s).flag f = s.flag f := rfl

@[simp] theorem memWrite16_a (s : State) (p v : Word) : (memWrite16 p v s).a = s.a := by simp [memWrite16]
@[simp] theorem memWrite16_b (s : State) (p v : Word) : (memWrite16 p v s).b = s.b := by simp [memWrite16]
@[simp] theorem memWrite16_x (s : State) (p v : Word) : (memWrite16 p v s).x = s.x := by simp [memWrite16]
@[simp] theorem memWrite16_y (s : State) (p v : Word) : (memWrite16 p v s).y = s.y := by simp [memWrite16]
@[simp] theorem memWrite16_sp (s : State) (p v : Word) : (memWrite16 p v s).sp = s.sp := by simp [memWrite16]
@[simp] theorem memWrite16_pc (s : State) (p v : Word) : (memWrite16 p v s).pc = s.pc := by simp [memWrite16]
@[simp] theorem memWrite16_ccr (s : State) (p v : Word) : (memWrite16 p v s).ccr = s.ccr := by simp [memWrite16]
@[simp] theorem memWrite16_cycles (s : State) (p v : Word) : (memWrite16 p v s).cycles = s.cycles := by simp [memWrite16]
@[simp] theorem memWrite16_lastPc (s : State) (p v : Word) : (memWrite16 p v s).lastPc = s.lastPc := by simp [memWrite16]
@[simp] theorem memWrite16_status (s : State) (p v : Word) : (memWrite16 p v s).status = s.status := by simp [memWrite16]
@[simp] theorem memWrite16_freeCount (s : State) (p v : Word) : (memWrite16 p v s).freeCount = s.freeCount := by simp [memWrite16]
@[simp] theorem memWrite16_d (s : State) (p v : Word) : (memWrite16 p v s).d = s.d := by simp [State.d]
@[simp] theorem memWrite16_flag (s : State) (p v : Word) (f : Flag) : (memWrite16 p v s).flag f = s.flag f := by simp [State.flag]

@[simp] theorem push8_a (s : State) (v : Byte) : (push8 v s).a = s.a := rfl
@[simp] theorem push8_b (s : State) (v : Byte) : (push8 v s).b = s.b := rfl
@[simp] theorem push8_x (s : State) (v : Byte) : (push8 v s).x = s.x := rfl
@[simp] theorem push8_y (s : State) (v : Byte) : (push8 v s).y = s.y := rfl
@[simp] theorem push8_pc (s : State) (v : Byte) : (push8 v s).pc = s.pc := rfl
@[simp] theorem push8_ccr (s : State) (v : Byte) : (push8 v s).ccr = s.ccr := rfl
@[simp] theorem push8_cycles (s : State) (v : Byte) : (push8 v s).cycles = s.cycles := rfl
@[simp] theorem push8_lastPc (s : State) (v : Byte) : (push8 v s).lastPc = s.lastPc := rfl
@[simp] theorem push8_status (s : State) (v : Byte) : (push8 v s).status = s.status := rfl
@[simp] theorem push8_freeCount (s : State) (v : Byte) : (push8 v s).freeCount = s.freeCount := rfl
@[simp] theorem push8_d (s : State) (v : Byte) : (push8 v s).d = s.d := rfl
@[simp] theorem push8_flag (s : State) (v : Byte) (f : Flag) : (push8 v s).flag f = s.flag f := rfl

@[simp] theorem push16_a (s : State) (v : Word) : (push16 v s).a = s.a := by simp [push16]
@[simp] theorem push16_b (s : State) (v : Word) : (push16 v s).b = s.b := by simp [push16]
@[simp] theorem push16_x (s : State) (v : Word) : (push16 v s).x = s.x := by simp [push16]
@[simp] theorem push16_y (s : State) (v : Word) : (push16 v s).y = s.y := by simp [push16]
@[simp] theorem push16_pc (s : State) (v : Word) : (push16 v s).pc = s.pc := by simp [push16]
@[simp] theorem push16_ccr (s : State) (v : Word) : (push16 v s).ccr = s.ccr := by simp [push16]
@[simp] theorem push16_cycles (s : State) (v : Word) : (push16 v s).cycles = s.cycles := by simp [push16]
@[simp] theorem push16_lastPc (s : State) (v : Word) : (push16 v s).lastPc = s.lastPc := by simp [push16]
@[simp] theorem push16_status (s : State) (v : Word) : (push16 v s).status = s.status := by simp [push16]
@[simp] theorem push16_freeCount (s : State) (v : Word) : (push16 v s).freeCount = s.freeCount := by simp [push16]
@[simp] theorem push16_d (s : State) (v : Word) : (push16 v s).d = s.d := by simp [State.d]
@[simp] theorem push16_flag (s : State) (v : Word) (f : Flag) : (push16 v s).flag f = s.flag f := by simp [State.flag]

@[simp] theorem pull8_a (s : State) : ((pull8 s).2).a = s.a := rfl
@[simp] theorem pull8_b (s : State) : ((pull8 s).2).b = s.b := rfl
@[simp] theorem pull8_x (s : State) : ((pull8 s).2).x = s.x := rfl
@[simp] theorem pull8_y (s : State) : ((pull8 s).2).y = s.y := rfl
@[simp] theorem pull8_pc (s : State) : ((pull8 s).2).pc = s.pc := rfl
@[simp] theorem pull8_ccr (s : State) : ((pull8 s).2).ccr = s.ccr := rfl
@[simp] theorem pull8_cycles (s : State) : ((pull8 s).2).cycles = s.cycles := rfl
@[simp] theorem pull8_lastPc (s : State) : ((pull8 s).2).lastPc = s.lastPc := rfl
@[simp] theorem pull8_status (s : State) : ((pull8 s).2).status = s.status := rfl
@[simp] theorem pull8_mem (s : State) : ((pull8 s).2).mem = s.mem := rfl
@[simp] theorem pull8_freeCount (s : State) : ((pull8 s).2).freeCount = s.freeCount := rfl
@[simp] theorem pull8_d (s : State) : ((pull8 s).2).d = s.d := rfl
@[simp] theorem pull8_flag (s : State) (f : Flag) : ((pull8 s).2).flag f = s.flag f := rfl
@[simp] theorem pull8_byteAt (s : State) (w : Word) : ((pull8 s).2).byteAt w = s.byteAt w := rfl
@[simp] theorem pull8_wordAt (s : State) (w : Word) : ((pull8 s).2).wordAt w = s.wordAt w := rfl

@[simp] theorem pull16_a (s : State) : ((pull16 s).2).a = s.a := by simp [pull16]
@[simp] theorem pull16_b (s : State) : ((pull16 s).2).b = s.b := by simp [pull16]
@[simp] theorem pull16_x (s : State) : ((pull16 s).2).x = s.x := by simp [pull16]
@[simp] theorem pull16_y (s : State) : ((pull16 s).2).y = s.y := by simp [pull16]
@[simp] theorem pull16_pc (s : State) : ((pull16 s).2).pc = s.pc := by simp [pull16]
@[simp] theorem pull16_ccr (s : State) : ((pull16 s).2).ccr = s.ccr := by simp [pull16]
@[simp] theorem pull16_cycles (s : State) : ((pull16 s).2).cycles = s.cycles := by simp [pull16]
@[simp] theorem pull16_lastPc (s : State) : ((pull16 s).2).lastPc = s.lastPc := by simp [pull16]
@[simp] theorem pull16_status (s : State) : ((pull16 s).2).status = s.status := by simp [pull16]
@[simp] theorem pull16_mem (s : State) : ((pull16 s).2).mem = s.mem := by simp [pull16]
@[simp] theorem pull16_freeCount (s : State) : ((pull16 s).2).freeCount = s.freeCount := by simp [pull16]
@[simp] theorem pull16_d (s : State) : ((pull16 s).2).d = s.d := by simp [State.d]
@[simp] theorem pull16_flag (s : State) (f : Flag) : ((pull16 s).2).flag f = s.flag f := by simp [State.flag]
@[simp] theorem pull16_byteAt (s : State) (w : Word) : ((pull16 s).2).byteAt w = s.byteAt w := by simp [State.byteAt]
@[simp] theorem pull16_wordAt (s : State) (w : Word) : ((pull16 s).2).wordAt w = s.wordAt w := by simp [State.wordAt]

@[simp] theorem pullA_b (s : State) : (pullA s).b = s.b := by simp [pullA]
@[simp] theorem pullA_x (s : State) : (pullA s).x = s.x := by simp [pullA]
@[simp] theorem pullA_y (s : State) : (pullA s).y = s.y := by simp [pullA]
@[simp] theorem pullA_pc (s : State) : (pullA s).pc = s.pc := by simp [pullA]
@[simp] theorem pullA_ccr (s : State) : (pullA s).ccr = s.ccr := by simp [pullA]
@[simp] theorem pullA_cycles (s : State) : (pullA s).cycles = s.cycles := by simp [pullA]
@[simp] theorem pullA_lastPc (s : State) : (pullA s).lastPc = s.lastPc := by simp [pullA]
@[simp] theorem pullA_status (s : State) : (pullA s).status = s.status := by simp [pullA]
@[simp] theorem pullA_mem (s : State) : (pullA s).mem = s.mem := by simp [pullA]
@[simp] theorem pullA_freeCount (s : State) : (pullA s).freeCount = s.freeCount := by simp [pullA]
@[simp] theorem pullA_flag (s : State) (f : Flag) : (pullA s).flag f = s.flag f := by simp [State.flag]
@[simp] theorem pullA_byteAt (s : State) (w : Word) : (pullA s).byteAt w = s.byteAt w := by simp [State.byteAt]
@[simp] theorem pullA_wordAt (s : State) (w : Word) : (pullA s).wordAt w = s.wordAt w := by simp [State.wordAt]

@[simp] theorem pullB_a (s : State) : (pullB s).a = s.a := by simp [pullB]
@[simp] theorem pullB_x (s : State) : (pullB s).x = s.x := by simp [pullB]
@[simp] theorem pullB_y (s : State) : (pullB s).y = s.y := by simp [pullB]
@[simp] theorem pullB_pc (s : State) : (pullB s).pc = s.pc := by simp [pullB]
@[simp] theorem pullB_ccr (s : State) : (pullB s).ccr = s.ccr := by simp [pullB]
@[simp] theorem pullB_cycles (s : State) : (pullB s).cycles = s.cycles := by simp [pullB]
@[simp] theorem pullB_lastPc (s : State) : (pullB s).lastPc = s.lastPc := by simp [pullB]
@[simp] theorem pullB_status (s : State) : (pullB s).status = s.status := by simp [pullB]
@[simp] theorem pullB_mem (s : State) : (pullB s).mem = s.mem := by simp [pullB]
@[simp] theorem pullB_freeCount (s : State) : (pullB s).freeCount = s.freeCount := by simp [pullB]
@[simp] theorem pullB_flag (s : State) (f : Flag) : (pullB s).flag f = s.flag f := by simp [State.flag]
@[simp] theorem pullB_byteAt (s : State) (w : Word) : (pullB s).byteAt w = s.byteAt w := by simp [State.byteAt]
@[simp] theorem pullB_wordAt (s : State) (w : Word) : (pullB s).wordAt w = s.wordAt w := by simp [State.wordAt]

@[simp] theorem pullX_a (s : State) : (pullX s).a = s.a := by simp [pullX]
@[simp] theorem pullX_b (s : State) : (pullX s).b = s.b := by simp [pullX]
@[simp] theorem pullX_y (s : State) : (pullX s).y = s.y := by simp [pullX]
@[simp] theorem pullX_pc (s : State) : (pullX s).pc = s.pc := by simp [pullX]
@[simp] theorem pullX_ccr (s : State) : (pullX s).ccr = s.ccr := by simp [pullX]
@[simp] theorem pullX_cycles (s : State) : (pullX s).cycles = s.cycles := by simp [pullX]
@[simp] theorem pullX_lastPc (s : State) : (pullX s).lastPc = s.lastPc := by simp [pullX]
@[simp] theorem pullX_status (s : State) : (pullX s).status = s.status := by simp [pullX]
@[simp] theorem pullX_mem (s : State) : (pullX s).mem = s.mem := by simp [pullX]
@[simp] theorem pullX_freeCount (s : State) : (pullX s).freeCount = s.freeCount := by simp [pullX]
@[simp] theorem pullX_d (s : State) : (pullX s).d = s.d := by simp [State.d]
@[simp] theorem pullX_flag (s : State) (f : Flag) : (pullX s).flag f = s.flag f := by simp [State.flag]
@[simp] theorem pullX_byteAt (s : State) (w : Word) : (pullX s).byteAt w = s.byteAt w := by simp [State.byteAt]
@[simp] theorem pullX_wordAt (s : State) (w : Word) : (pullX s).wordAt w = s.wordAt w := by simp [State.wordAt]

@[simp] theorem pullY_a (s : State) : (pullY s).a = s.a := by simp [pullY]
@[simp] theorem pullY_b (s : State) : (pullY s).b = s.b := by simp [pullY]
@[simp] theorem pullY_x (s : State) : (pullY s).x = s.x := by simp [pullY]
@[simp] theorem pullY_pc (s : State) : (pullY s).pc = s.pc := by simp [pullY]
@[simp] theorem pullY_ccr (s : State) : (pullY s).ccr = s.ccr := by simp [pullY]
@[simp] theorem pullY_cycles (s : State) : (pullY s).cycles = s.cycles := by simp [pullY]
@[simp] theorem pullY_lastPc (s : State) : (pullY s).lastPc = s.lastPc := by simp [pullY]
@[simp] theorem pullY_status (s : State) : (pullY s).status = s.status := by simp [pullY]
@[simp] theorem pullY_mem (s : State) : (pullY s).mem = s.mem := by simp [pullY]
@[simp] theorem pullY_freeCount (s : State) : (pullY s).freeCount = s.freeCount := by simp [pullY]
@[simp] theorem pullY_d (s : State) : (pullY s).d = s.d := by simp [State.d]
@[simp] theorem pullY_flag (s : State) (f : Flag) : (pullY s).flag f = s.flag f := by simp [State.flag]
@[simp] theorem pullY_byteAt (s : State) (w : Word) : (pullY s).byteAt w = s.byteAt w := by simp [State.byteAt]
@[simp] theorem pullY_wordAt (s : State) (w : Word) : (pullY s).wordAt w = s.wordAt w := by simp [State.wordAt]

@[simp] theorem pullPc_a (s : State) : (pullPc s).a = s.a := by simp [pullPc]
@[simp] theorem pullPc_b (s : State) : (pullPc s).b = s.b := by simp [pullPc]
@[simp] theorem pullPc_x (s : State) : (pullPc s).x = s.x := by simp [pullPc]
@[simp] theorem pullPc_y (s : State) : (pullPc s).y = s.y := by simp [pullPc]
@[simp] theorem pullPc_ccr (s : State) : (pullPc s).ccr = s.ccr := by simp [pullPc]
@[simp] theorem pullPc_cycles (s : State) : (pullPc s).cycles = s.cycles := by simp [pullPc]
@[simp] theorem pullPc_lastPc (s : State) : (pullPc s).lastPc = s.lastPc := by simp [pullPc]
@[simp] theorem pullPc_status (s : State) : (pullPc s).status = s.status := by simp [pullPc]
@[simp] theorem pullPc_mem (s : State) : (pullPc s).mem = s.mem := by simp [pullPc]
@[simp] theorem pullPc_freeCount (s : State) : (pullPc s).freeCount = s.freeCount := by simp [pullPc]
@[simp] theorem pullPc_d (s : State) : (pullPc s).d = s.d := by simp [State.d]
@[simp] theorem pullPc_flag (s : State) (f : Flag) : (pullPc s).flag f = s.flag f := by simp [State.flag]
@[simp] theorem pullPc_byteAt (s : State) (w : Word) : (pullPc s).byteAt w = s.byteAt w := by simp [State.byteAt]
@[simp] theorem pullPc_wordAt (s : State) (w : Word) : (pullPc s).wordAt w = s.wordAt w := by simp [State.wordAt]

@[simp] theorem pullCcr_a (s : State) : (pullCcr s).a = s.a := by simp [pullCcr]
@[simp] theorem pullCcr_b (s : State) : (pullCcr s).b = s.b := by simp [pullCcr]
@[simp] theorem pullCcr_x (s : State) : (pullCcr s).x = s.x := by simp [pullCcr]
@[simp] theorem pullCcr_y (s : State) : (pullCcr s).y = s.y := by simp [pullCcr]
@[simp] theorem pullCcr_pc (s : State) : (pullCcr s).pc = s.pc := by simp [pullCcr]
@[simp] theorem pullCcr_cycles (s : State) : (pullCcr s).cycles = s.cycles := by simp [pullCcr]
@[simp] theorem pullCcr_lastPc (s : State) : (pullCcr s).lastPc = s.lastPc := by simp [pullCcr]
@[simp] theorem pullCcr_status (s : State) : (pullCcr s).status = s.status := by simp [pullCcr]
@[simp] theorem pullCcr_mem (s : State) : (pullCcr s).mem = s.mem := by simp [pullCcr]
@[simp] theorem pullCcr_freeCount (s : State) : (pullCcr s).freeCount = s.freeCount := by simp [pullCcr]
@[simp] theorem pullCcr_d (s : State) : (pullCcr s).d = s.d := by simp [State.d]
@[simp] theorem pullCcr_byteAt (s : State) (w : Word) : (pullCcr s).byteAt w = s.byteAt w := by simp [State.byteAt]
@[simp] theorem pullCcr_wordAt (s : State) (w : Word) : (pullCcr s).wordAt w = s.wordAt w := by simp [State.wordAt]

@[simp] theorem pushFrame_a (s : State) : (pushFrame s).a = s.a := by simp [pushFrame]
@[simp] theorem pushFrame_b (s : State) : (pushFrame s).b = s.b := by simp [pushFrame]
@[simp] theorem pushFrame_x (s : State) : (pushFrame s).x = s.x := by simp [pushFrame]
@[simp] theorem pushFrame_y (s : State) : (pushFrame s).y = s.y := by simp [pushFrame]
@[simp] theorem pushFrame_pc (s : State) : (pushFrame s).pc = s.pc := by simp [pushFrame]
@[simp] theorem pushFrame_ccr (s : State) : (pushFrame s).ccr = s.ccr := by simp [pushFrame]
@[simp] theorem pushFrame_cycles (s : State) : (pushFrame s).cycles = s.cycles := by simp [pushFrame]
@[simp] theorem pushFrame_lastPc (s : State) : (pushFrame s).lastPc = s.lastPc := by simp [pushFrame]
@[simp] theorem pushFrame_status (s : State) : (pushFrame s).status = s.status := by simp [pushFrame]
@[simp] theorem pushFrame_freeCount (s : State) : (pushFrame s).freeCount = s.freeCount := by simp [pushFrame]
@[simp] theorem pushFrame_d (s : State) : (pushFrame s).d = s.d := by simp [State.d]
@[simp] theorem pushFrame_flag (s : State) (f : Flag) : (pushFrame s).flag f = s.flag f := by simp [State.flag]

@[simp] theorem jumpThrough_a (s : State) (p : Word) : (jumpThrough p s).a = s.a := by simp [jumpThrough]
@[simp] theorem jumpThrough_b (s : State) (p : Word) : (jumpThrough p s).b = s.b := by simp [jumpThrough]
@[simp] theorem jumpThrough_x (s : State) (p : Word) : (jumpThrough p s).x = s.x := by simp [jumpThrough]
@[simp] theorem jumpThrough_y (s : State) (p : Word) : (jumpThrough p s).y = s.y := by simp [jumpThrough]
@[simp] theorem jumpThrough_sp (s : State) (p : Word) : (jumpThrough p s).sp = s.sp := by simp [jumpThrough]
@[simp] theorem jumpThrough_ccr (s : State) (p : Word) : (jumpThrough p s).ccr = s.ccr := by simp [jumpThrough]
@[simp] theorem jumpThrough_cycles (s : State) (p : Word) : (jumpThrough p s).cycles = s.cycles := by simp [jumpThrough]
@[simp] theorem jumpThrough_lastPc (s : State) (p : Word) : (jumpThrough p s).lastPc = s.lastPc := by simp [jumpThrough]
@[simp] theorem jumpThrough_status (s : State) (p : Word) : (jumpThrough p s).status = s.status := by simp [jumpThrough]
@[simp] theorem jumpThrough_mem (s : State) (p : Word) : (jumpThrough p s).mem = s.mem := by simp [jumpThrough]
@[simp] theorem jumpThrough_freeCount (s : State) (p : Word) : (jumpThrough p s).freeCount = s.freeCount := by simp [jumpThrough]
@[simp] theorem jumpThrough_d (s : State) (p : Word) : (jumpThrough p s).d = s.d := by simp [State.d]
@[simp] theorem jumpThrough_flag (s : State) (p : Word) (f : Flag) : (jumpThrough p s).flag f = s.flag f := by simp [State.flag]
@[simp] theorem jumpThrough_byteAt (s : State) (p : Word) (w : Word) : (jumpThrough p s).byteAt w = s.byteAt w := by simp [State.byteAt]
@[simp] theorem jumpThrough_wordAt (s : State) (p : Word) (w : Word) : (jumpThrough p s).wordAt w = s.wordAt w := by simp [State.wordAt]

@[simp] theorem takeTrap_a (s : State) : (takeTrap s).a = s.a := by simp [takeTrap]
@[simp] theorem takeTrap_b (s : State) : (takeTrap s).b = s.b := by simp [takeTrap]
@[simp] theorem takeTrap_x (s : State) : (takeTrap s).x = s.x := by simp [takeTrap]
@[simp] theorem takeTrap_y (s : State) : (takeTrap s).y = s.y := by simp [takeTrap]
@[simp] theorem takeTrap_cycles (s : State) : (takeTrap s).cycles = s.cycles := by simp [takeTrap]
@[simp] theorem takeTrap_lastPc (s : State) : (takeTrap s).lastPc = s.lastPc := by simp [takeTrap]
@[simp] theorem takeTrap_status (s : State) : (takeTrap s).status = s.status := by simp [takeTrap]
@[simp] theorem takeTrap_freeCount (s : State) : (takeTrap s).freeCount = s.freeCount := by simp [takeTrap]
@[simp] theorem takeTrap_d (s : State) : (takeTrap s).d = s.d := by simp [State.d]

@[simp] theorem returnFromTrap_cycles (s : State) : (returnFromTrap s).cycles = s.cycles := by simp [returnFromTrap]
@[simp] theorem returnFromTrap_lastPc (s : State) : (returnFromTrap s).lastPc = s.lastPc := by simp [returnFromTrap]
@[simp] theorem returnFromTrap_status (s : State) : (returnFromTrap s).status = s.status := by simp [returnFromTrap]
@[simp] theorem returnFromTrap_mem (s : State) : (returnFromTrap s).mem = s.mem := by simp [returnFromTrap]
@[simp] theorem returnFromTrap_freeCount (s : State) : (returnFromTrap s).freeCount = s.freeCount := by simp [returnFromTrap]
@[simp] theorem returnFromTrap_byteAt (s : State) (w : Word) : (returnFromTrap s).byteAt w = s.byteAt w := by simp [State.byteAt]
@[simp] theorem returnFromTrap_wordAt (s : State) (w : Word) : (returnFromTrap s).wordAt w = s.wordAt w := by simp [State.wordAt]

@[simp] theorem drawBit_a (s : State) : ((drawBit s).2).a = s.a := rfl
@[simp] theorem drawBit_b (s : State) : ((drawBit s).2).b = s.b := rfl
@[simp] theorem drawBit_x (s : State) : ((drawBit s).2).x = s.x := rfl
@[simp] theorem drawBit_y (s : State) : ((drawBit s).2).y = s.y := rfl
@[simp] theorem drawBit_sp (s : State) : ((drawBit s).2).sp = s.sp := rfl
@[simp] theorem drawBit_pc (s : State) : ((drawBit s).2).pc = s.pc := rfl
@[simp] theorem drawBit_ccr (s : State) : ((drawBit s).2).ccr = s.ccr := rfl
@[simp] theorem drawBit_cycles (s : State) : ((drawBit s).2).cycles = s.cycles := rfl
@[simp] theorem drawBit_lastPc (s : State) : ((drawBit s).2).lastPc = s.lastPc := rfl
@[simp] theorem drawBit_status (s : State) : ((drawBit s).2).status = s.status := rfl
@[simp] theorem drawBit_mem (s : State) : ((drawBit s).2).mem = s.mem := rfl
@[simp] theorem drawBit_bus (s : State) : ((drawBit s).2).bus = s.bus := rfl
@[simp] theorem drawBit_d (s : State) : ((drawBit s).2).d = s.d := rfl
@[simp] theorem drawBit_flag (s : State) (f : Flag) : ((drawBit s).2).flag f = s.flag f := rfl
@[simp] theorem drawBit_byteAt (s : State) (w : Word) : ((drawBit s).2).byteAt w = s.byteAt w := rfl
@[simp] theorem drawBit_wordAt (s : State) (w : Word) : ((drawBit s).2).wordAt w = s.wordAt w := rfl

@[simp] theorem drawWord_a (s : State) : ((drawWord s).2).a = s.a := rfl
@[simp] theorem drawWord_b (s : State) : ((drawWord s).2).b = s.b := rfl
@[simp] theorem drawWord_x (s : State) : ((drawWord s).2).x = s.x := rfl
@[simp] theorem drawWord_y (s : State) : ((drawWord s).2).y = s.y := rfl
@[simp] theorem drawWord_sp (s : State) : ((drawWord s).2).sp = s.sp := rfl
@[simp] theorem drawWord_pc (s : State) : ((drawWord s).2).pc = s.pc := rfl
@[simp] theorem drawWord_ccr (s : State) : ((drawWord s).2).ccr = s.ccr := rfl
@[simp] theorem drawWord_cycles (s : State) : ((drawWord s).2).cycles = s.cycles := rfl
@[simp] theorem drawWord_lastPc (s : State) : ((drawWord s).2).lastPc = s.lastPc := rfl
@[simp] theorem drawWord_status (s : State) : ((drawWord s).2).status = s.status := rfl
@[simp] theorem drawWord_mem (s : State) : ((drawWord s).2).mem = s.mem := rfl
@[simp] theorem drawWord_bus (s : State) : ((drawWord s).2).bus = s.bus := rfl
@[simp] theorem drawWord_d (s : State) : ((drawWord s).2).d = s.d := rfl
@[simp] theorem drawWord_flag (s : State) (f : Flag) : ((drawWord s).2).flag f = s.flag f := rfl
@[simp] theorem drawWord_byteAt (s : State) (w : Word) : ((drawWord s).2).byteAt w = s.byteAt w := rfl
@[simp] theorem drawWord_wordAt (s : State) (w : Word) : ((drawWord s).2).wordAt w = s.wordAt w := rfl

/-! ## Values -/

@[simp] theorem State.setD_a (s : State) (v : Word) : (s.setD v).a = hiByte v := rfl
@[simp] theorem State.setD_b (s : State) (v : Word) : (s.setD v).b = loByte v := rfl
@[simp] theorem State.setD_d (s : State) (v : Word) : (s.setD v).d = v := joinBytes_hiByte_loByte v
@[simp] theorem hiByte_d (s : State) : hiByte s.d = s.a := hiByte_joinBytes s.a s.b
@[simp] theorem loByte_d (s : State) : loByte s.d = s.b := loByte_joinBytes s.a s.b
@[simp] theorem State.putFlag_ccr (s : State) (g : Flag) (v : Bool) : (s.putFlag g v).ccr = Machine.putFlag g v s.ccr := rfl
@[simp] theorem State.putFlag_flag (s : State) (g : Flag) (v : Bool) (f : Flag) :
    (s.putFlag g v).flag f = ccrBit (Machine.putFlag g v s.ccr) f := rfl
theorem State.flag_eq (s : State) (f : Flag) : s.flag f = ccrBit s.ccr f := rfl

@[simp] theorem memRead8_value (s : State) (p : Word) : (memRead8 p s).1 = s.byteAt p := rfl
@[simp] theorem memRead16_value (s : State) (p : Word) : (memRead16 p s).1 = s.wordAt p := by
  simp [memRead16, State.wordAt]
@[simp] theorem drawBit_value (s : State) : (drawBit s).1 = Config.freeBit s.freeCount := rfl
@[simp] theorem drawWord_value (s : State) : (drawWord s).1 = Config.freeWord s.freeCount := rfl

@[simp] theorem drawBit_freeCount (s : State) : (drawBit s).2.freeCount = s.freeCount + 1 := rfl
@[simp] theorem drawWord_freeCount (s : State) : (drawWord s).2.freeCount = s.freeCount + 1 := rfl

/-! ## Memory: the bytes after a store -/

theorem Memory.read_write_word (m : Memory) (p w : Word) (v : Byte) :
    (m.write p.toNat v).read w.toNat = if w = p then v else m.read w.toNat := by
  simp [BitVec.toNat_inj]

@[simp] theorem State.storeSilent_byteAt (s : State) (p w : Word) (v : Byte) :
    (s.storeSilent p v).byteAt w = if w = p then v else s.byteAt w := Memory.read_write_word s.mem p w v

@[simp] theorem memWrite8_byteAt (s : State) (p w : Word) (v : Byte) :
    (memWrite8 p v s).byteAt w = if w = p then v else s.byteAt w := Memory.read_write_word s.mem p w v

@[simp] theorem memWrite16_byteAt (s : State) (p v w : Word) :
    (memWrite16 p v s).byteAt w = if w = p + 1 then loByte v else if w = p then hiByte v else s.byteAt w := by
  simp [memWrite16]

/-- A 16-bit store reads back as the word stored (20_memory.md R53), at every address. -/
@[simp] theorem memWrite16_wordAt_self (s : State) (p v : Word) : (memWrite16 p v s).wordAt p = v := by
  simp [State.wordAt]

@[simp] theorem push8_byteAt (s : State) (v : Byte) (w : Word) :
    (push8 v s).byteAt w = if w = s.sp then v else s.byteAt w := memWrite8_byteAt s s.sp w v
@[simp] theorem push8_sp (s : State) (v : Byte) : (push8 v s).sp = s.sp - 1 := rfl
@[simp] theorem push8_mem (s : State) (v : Byte) : (push8 v s).mem = s.mem.write s.sp.toNat v := rfl
@[simp] theorem memWrite8_mem (s : State) (p : Word) (v : Byte) : (memWrite8 p v s).mem = s.mem.write p.toNat v := rfl

@[simp] theorem push16_sp (s : State) (v : Word) : (push16 v s).sp = s.sp - 2 := by
  simp only [push16, push8_sp]
  bv_omega
theorem memWrite16_mem (s : State) (p v : Word) :
    (memWrite16 p v s).mem = (s.mem.write p.toNat (hiByte v)).write (p + 1).toNat (loByte v) := rfl
theorem push16_mem (s : State) (v : Word) :
    (push16 v s).mem = (s.mem.write s.sp.toNat (loByte v)).write (s.sp - 1).toNat (hiByte v) := rfl
@[simp] theorem push16_byteAt (s : State) (v w : Word) :
    (push16 v s).byteAt w = if w = s.sp - 1 then hiByte v else if w = s.sp then loByte v else s.byteAt w := by
  simp [push16]

/-- A pushed word lies big-endian, its high byte lower (20_memory.md R55). -/
@[simp] theorem push16_wordAt (s : State) (v : Word) : (push16 v s).wordAt (s.sp - 1#16) = v := by
  have h : s.sp ≠ s.sp - 1#16 := by bv_omega
  simp [State.wordAt, h]

@[simp] theorem pull8_value (s : State) : (pull8 s).1 = s.byteAt (s.sp + 1) := rfl
@[simp] theorem pull8_sp (s : State) : (pull8 s).2.sp = s.sp + 1 := rfl
@[simp] theorem pull16_value (s : State) : (pull16 s).1 = s.wordAt (s.sp + 1) := by
  simp [pull16, State.wordAt]
@[simp] theorem pull16_sp (s : State) : (pull16 s).2.sp = s.sp + 2 := by
  simp only [pull16, pull8_sp]
  bv_omega

/-! ## The frame of swi and wai, and the trap return -/

@[simp] theorem pushFrame_sp (s : State) : (pushFrame s).sp = s.sp - 9 := by
  simp only [pushFrame, push8_sp, push16_sp]
  bv_omega

/-- The bytes after the frame is stacked (60_exceptions.md R242). -/
theorem pushFrame_byteAt (s : State) (w : Word) :
    (pushFrame s).byteAt w =
      if w = s.sp - 8 then s.ccr else if w = s.sp - 7 then s.b else if w = s.sp - 6 then s.a
      else if w = s.sp - 5 then hiByte s.x else if w = s.sp - 4 then loByte s.x
      else if w = s.sp - 3 then hiByte s.y else if w = s.sp - 2 then loByte s.y
      else if w = s.sp - 1 then hiByte s.pc else if w = s.sp then loByte s.pc else s.byteAt w := by
  have e (m n k : Word) (h : m + n = k) : s.sp - m - n = s.sp - k := by subst h; bv_omega
  simp only [pushFrame, push8_byteAt, push16_byteAt, push8_sp, push16_sp,
    e 2 2 4 (by decide), e 4 2 6 (by decide), e 6 1 7 (by decide), e 7 1 8 (by decide), e 2 1 3 (by decide),
    e 4 1 5 (by decide)]

@[simp] theorem jumpThrough_pc (s : State) (p : Word) : (jumpThrough p s).pc = s.wordAt p := by simp [jumpThrough]
@[simp] theorem takeTrap_sp (s : State) : (takeTrap s).sp = s.sp - 9 := by simp [takeTrap]
@[simp] theorem takeTrap_byteAt (s : State) (w : Word) : (takeTrap s).byteAt w = (pushFrame s).byteAt w := by
  simp [takeTrap]
@[simp] theorem takeTrap_ccr (s : State) : (takeTrap s).ccr = putFlag .i true s.ccr := by simp [takeTrap]
@[simp] theorem takeTrap_pc (s : State) : (takeTrap s).pc = (pushFrame s).wordAt swiVector := by simp [takeTrap]
@[simp] theorem takeTrap_mem (s : State) : (takeTrap s).mem = (pushFrame s).mem := by simp [takeTrap]

@[simp] theorem pullA_a (s : State) : (pullA s).a = s.byteAt (s.sp + 1) := by simp [pullA]
@[simp] theorem pullA_sp (s : State) : (pullA s).sp = s.sp + 1 := by simp [pullA]
@[simp] theorem pullB_b (s : State) : (pullB s).b = s.byteAt (s.sp + 1) := by simp [pullB]
@[simp] theorem pullB_sp (s : State) : (pullB s).sp = s.sp + 1 := by simp [pullB]
@[simp] theorem pullX_x (s : State) : (pullX s).x = s.wordAt (s.sp + 1) := by simp [pullX]
@[simp] theorem pullX_sp (s : State) : (pullX s).sp = s.sp + 2 := by simp [pullX]
@[simp] theorem pullY_y (s : State) : (pullY s).y = s.wordAt (s.sp + 1) := by simp [pullY]
@[simp] theorem pullY_sp (s : State) : (pullY s).sp = s.sp + 2 := by simp [pullY]
@[simp] theorem pullPc_pc (s : State) : (pullPc s).pc = s.wordAt (s.sp + 1) := by simp [pullPc]
@[simp] theorem pullPc_sp (s : State) : (pullPc s).sp = s.sp + 2 := by simp [pullPc]
@[simp] theorem pullCcr_ccr (s : State) : (pullCcr s).ccr = setCcrByte (s.byteAt (s.sp + 1)) s.ccr := by simp [pullCcr]
@[simp] theorem pullCcr_sp (s : State) : (pullCcr s).sp = s.sp + 1 := by simp [pullCcr]

theorem returnFromTrap_sp (s : State) : (returnFromTrap s).sp = s.sp + 9 := by
  simp [returnFromTrap, BitVec.add_assoc]
theorem returnFromTrap_ccr (s : State) : (returnFromTrap s).ccr = setCcrByte (s.byteAt (s.sp + 1)) s.ccr := by simp [returnFromTrap]
theorem returnFromTrap_b (s : State) : (returnFromTrap s).b = s.byteAt (s.sp + 2) := by
  simp [returnFromTrap, BitVec.add_assoc]
theorem returnFromTrap_a (s : State) : (returnFromTrap s).a = s.byteAt (s.sp + 3) := by
  simp [returnFromTrap, BitVec.add_assoc]
theorem returnFromTrap_x (s : State) : (returnFromTrap s).x = s.wordAt (s.sp + 4) := by
  simp [returnFromTrap, BitVec.add_assoc]
theorem returnFromTrap_y (s : State) : (returnFromTrap s).y = s.wordAt (s.sp + 6) := by
  simp [returnFromTrap, BitVec.add_assoc]
theorem returnFromTrap_pc (s : State) : (returnFromTrap s).pc = s.wordAt (s.sp + 8) := by
  simp [returnFromTrap, BitVec.add_assoc]

/-! ## The bus: an access never changes the host's configuration (20_memory.md R63) -/

theorem Bus.arm_cases (k : BusKind) (p i : Word) (u : Bus) : u.arm k p i = u ∨ u.arm k p i = { u with pending := some i } := by
  cases k with
  | fetch => exact .inl rfl
  | read => by_cases h : u.readBreaks.contains p = true <;> simp only [Bus.arm, h] <;> simp
  | write => by_cases h : u.writeBreaks.contains p = true <;> simp only [Bus.arm, h] <;> simp

/-- One call leaves the configuration, appends at most one event, and leaves the latch or arms it with the instruction. -/
theorem Bus.notifyOne_spec (k : BusKind) (p i : Word) (u : Bus) (e : TrapEntry) :
    ∃ l q, u.notifyOne k p i e = { u with events := u.events ++ l, pending := q } ∧ (q = u.pending ∨ q = some i) := by
  unfold Bus.notifyOne
  split
  · cases e.observer with
    | breakpoints =>
      rcases Bus.arm_cases k p i (u.emit (.trap k .breakpoints p i)) with h | h
      · exact ⟨[_], u.pending, h, .inl rfl⟩
      · exact ⟨[_], some i, h, .inr rfl⟩
    | other id => exact ⟨[_], u.pending, rfl, .inl rfl⟩
  · exact ⟨[], u.pending, by simp, .inl rfl⟩

theorem Bus.notifyAll_spec (k : BusKind) (p i : Word) (es : List TrapEntry) (u : Bus) :
    ∃ l q, es.foldl (Bus.notifyOne k p i) u = { u with events := u.events ++ l, pending := q } ∧
      (q = u.pending ∨ q = some i) := by
  induction es generalizing u with
  | nil => exact ⟨[], u.pending, by simp, .inl rfl⟩
  | cons e es ih =>
    obtain ⟨l, q, h, hq⟩ := Bus.notifyOne_spec k p i u e
    obtain ⟨l', q', h', hq'⟩ := ih (u.notifyOne k p i e)
    refine ⟨l ++ l', q', ?_, ?_⟩
    · rw [List.foldl_cons, h', h]; simp
    · rw [h] at hq'
      rcases hq' with rfl | rfl
      · exact hq
      · exact .inr rfl

/-- All that a trapped access does: its transaction comes first among the events it appends, and the latch is left or armed. -/
theorem Bus.access_spec (k : BusKind) (p : Word) (v : Byte) (i : Word) (u : Bus) :
    ∃ l q, u.access k p v i = { u with events := u.events ++ (.bus k p v i :: l), pending := q } ∧
      (q = u.pending ∨ q = some i) := by
  obtain ⟨l, q, h, hq⟩ := Bus.notifyAll_spec k p i u.traps (u.emit (.bus k p v i))
  refine ⟨l, q, ?_, hq⟩
  unfold Bus.access
  rw [h]
  simp [Bus.emit]

@[simp] theorem Bus.access_config (k : BusKind) (p : Word) (v : Byte) (i : Word) (u : Bus) :
    (u.access k p v i).config = u.config := by
  obtain ⟨l, q, h, -⟩ := Bus.access_spec k p v i u
  rw [h]; rfl

@[simp] theorem Bus.emit_config (e : Event) (u : Bus) : (u.emit e).config = u.config := rfl

@[simp] theorem State.access_bus (s : State) (k : BusKind) (p : Word) (v : Byte) :
    (s.access k p v).bus = s.bus.access k p v s.lastPc := rfl
theorem memRead8_bus (s : State) (p : Word) : (memRead8 p s).2.bus = s.bus.access .read p (s.byteAt p) s.lastPc := rfl
theorem memWrite8_bus (s : State) (p : Word) (v : Byte) : (memWrite8 p v s).bus = s.bus.access .write p v s.lastPc := rfl
@[simp] theorem State.emit_bus (s : State) (e : Event) : (s.emit e).bus = s.bus.emit e := rfl
@[simp] theorem memRead8_config (s : State) (p : Word) : ((memRead8 p s).2).bus.config = s.bus.config := by simp [memRead8_bus]
@[simp] theorem memRead16_config (s : State) (p : Word) : ((memRead16 p s).2).bus.config = s.bus.config := by simp [memRead16]
@[simp] theorem memWrite8_config (s : State) (p : Word) (v : Byte) : (memWrite8 p v s).bus.config = s.bus.config := by simp [memWrite8_bus]
@[simp] theorem memWrite16_config (s : State) (p v : Word) : (memWrite16 p v s).bus.config = s.bus.config := by simp [memWrite16]
@[simp] theorem push8_config (s : State) (v : Byte) : (push8 v s).bus.config = s.bus.config := memWrite8_config s s.sp v
@[simp] theorem push16_config (s : State) (v : Word) : (push16 v s).bus.config = s.bus.config := by simp [push16]
@[simp] theorem pull8_config (s : State) : ((pull8 s).2).bus.config = s.bus.config := memRead8_config (s.setSp (s.sp + 1)) (s.sp + 1)
@[simp] theorem pull16_config (s : State) : ((pull16 s).2).bus.config = s.bus.config := by simp [pull16]
@[simp] theorem pullA_config (s : State) : (pullA s).bus.config = s.bus.config := by simp [pullA]
@[simp] theorem pullB_config (s : State) : (pullB s).bus.config = s.bus.config := by simp [pullB]
@[simp] theorem pullX_config (s : State) : (pullX s).bus.config = s.bus.config := by simp [pullX]
@[simp] theorem pullY_config (s : State) : (pullY s).bus.config = s.bus.config := by simp [pullY]
@[simp] theorem pullPc_config (s : State) : (pullPc s).bus.config = s.bus.config := by simp [pullPc]
@[simp] theorem pullCcr_config (s : State) : (pullCcr s).bus.config = s.bus.config := by simp [pullCcr]
@[simp] theorem pushFrame_config (s : State) : (pushFrame s).bus.config = s.bus.config := by simp [pushFrame]
@[simp] theorem jumpThrough_config (s : State) (p : Word) : (jumpThrough p s).bus.config = s.bus.config := by simp [jumpThrough]
@[simp] theorem takeTrap_config (s : State) : (takeTrap s).bus.config = s.bus.config := by simp [takeTrap]
@[simp] theorem returnFromTrap_config (s : State) : (returnFromTrap s).bus.config = s.bus.config := by simp [returnFromTrap]

/-! ## The canonical form of memory -/

theorem State.storeSilent_inv {s : State} (p : Word) (v : Byte) (h : s.mem.wf = true) :
    (s.storeSilent p v).mem.wf = true := Memory.wf_write v h p.isLt
theorem memWrite8_inv {s : State} (p : Word) (v : Byte) (h : s.mem.wf = true) : (memWrite8 p v s).mem.wf = true :=
  Memory.wf_write v h p.isLt
theorem memWrite16_inv {s : State} (p v : Word) (h : s.mem.wf = true) : (memWrite16 p v s).mem.wf = true :=
  memWrite8_inv _ _ (memWrite8_inv _ _ h)
theorem push8_inv {s : State} (v : Byte) (h : s.mem.wf = true) : (push8 v s).mem.wf = true := memWrite8_inv _ _ h
theorem push16_inv {s : State} (v : Word) (h : s.mem.wf = true) : (push16 v s).mem.wf = true := push8_inv _ (push8_inv _ h)
theorem pushFrame_inv {s : State} (h : s.mem.wf = true) : (pushFrame s).mem.wf = true :=
  push8_inv _ (push8_inv _ (push8_inv _ (push16_inv _ (push16_inv _ (push16_inv _ h)))))
theorem takeTrap_inv {s : State} (h : s.mem.wf = true) : (takeTrap s).mem.wf = true := by
  simpa using pushFrame_inv h

end Sys2Proof.Machine
end

