-- ==== Sys2Proof/Laws/Operands.lean ====
section
/-! SUPPORT. What the instruction shapes do: the fields each leaves alone, then the values each writes. -/

namespace Sys2Proof.Machine

open Sys2Proof

@[simp] theorem read8_a (s : State) (o : Opnd8) : ((read8 o s).2).a = s.a := by cases o <;> simp [read8]
@[simp] theorem read8_b (s : State) (o : Opnd8) : ((read8 o s).2).b = s.b := by cases o <;> simp [read8]
@[simp] theorem read8_x (s : State) (o : Opnd8) : ((read8 o s).2).x = s.x := by cases o <;> simp [read8]
@[simp] theorem read8_y (s : State) (o : Opnd8) : ((read8 o s).2).y = s.y := by cases o <;> simp [read8]
@[simp] theorem read8_sp (s : State) (o : Opnd8) : ((read8 o s).2).sp = s.sp := by cases o <;> simp [read8]
@[simp] theorem read8_pc (s : State) (o : Opnd8) : ((read8 o s).2).pc = s.pc := by cases o <;> simp [read8]
@[simp] theorem read8_ccr (s : State) (o : Opnd8) : ((read8 o s).2).ccr = s.ccr := by cases o <;> simp [read8]
@[simp] theorem read8_cycles (s : State) (o : Opnd8) : ((read8 o s).2).cycles = s.cycles := by cases o <;> simp [read8]
@[simp] theorem read8_lastPc (s : State) (o : Opnd8) : ((read8 o s).2).lastPc = s.lastPc := by cases o <;> simp [read8]
@[simp] theorem read8_status (s : State) (o : Opnd8) : ((read8 o s).2).status = s.status := by cases o <;> simp [read8]
@[simp] theorem read8_mem (s : State) (o : Opnd8) : ((read8 o s).2).mem = s.mem := by cases o <;> simp [read8]
@[simp] theorem read8_freeCount (s : State) (o : Opnd8) : ((read8 o s).2).freeCount = s.freeCount := by cases o <;> simp [read8]
@[simp] theorem read8_config (s : State) (o : Opnd8) : ((read8 o s).2).bus.config = s.bus.config := by cases o <;> simp [read8]
@[simp] theorem read8_d (s : State) (o : Opnd8) : ((read8 o s).2).d = s.d := by simp [State.d]
@[simp] theorem read8_flag (s : State) (o : Opnd8) (f : Flag) : ((read8 o s).2).flag f = s.flag f := by simp [State.flag]
@[simp] theorem read8_byteAt (s : State) (o : Opnd8) (w : Word) : ((read8 o s).2).byteAt w = s.byteAt w := by simp [State.byteAt]
@[simp] theorem read8_wordAt (s : State) (o : Opnd8) (w : Word) : ((read8 o s).2).wordAt w = s.wordAt w := by simp [State.wordAt]

@[simp] theorem read16_a (s : State) (o : Opnd16) : ((read16 o s).2).a = s.a := by cases o <;> simp [read16]
@[simp] theorem read16_b (s : State) (o : Opnd16) : ((read16 o s).2).b = s.b := by cases o <;> simp [read16]
@[simp] theorem read16_x (s : State) (o : Opnd16) : ((read16 o s).2).x = s.x := by cases o <;> simp [read16]
@[simp] theorem read16_y (s : State) (o : Opnd16) : ((read16 o s).2).y = s.y := by cases o <;> simp [read16]
@[simp] theorem read16_sp (s : State) (o : Opnd16) : ((read16 o s).2).sp = s.sp := by cases o <;> simp [read16]
@[simp] theorem read16_pc (s : State) (o : Opnd16) : ((read16 o s).2).pc = s.pc := by cases o <;> simp [read16]
@[simp] theorem read16_ccr (s : State) (o : Opnd16) : ((read16 o s).2).ccr = s.ccr := by cases o <;> simp [read16]
@[simp] theorem read16_cycles (s : State) (o : Opnd16) : ((read16 o s).2).cycles = s.cycles := by cases o <;> simp [read16]
@[simp] theorem read16_lastPc (s : State) (o : Opnd16) : ((read16 o s).2).lastPc = s.lastPc := by cases o <;> simp [read16]
@[simp] theorem read16_status (s : State) (o : Opnd16) : ((read16 o s).2).status = s.status := by cases o <;> simp [read16]
@[simp] theorem read16_mem (s : State) (o : Opnd16) : ((read16 o s).2).mem = s.mem := by cases o <;> simp [read16]
@[simp] theorem read16_freeCount (s : State) (o : Opnd16) : ((read16 o s).2).freeCount = s.freeCount := by cases o <;> simp [read16]
@[simp] theorem read16_config (s : State) (o : Opnd16) : ((read16 o s).2).bus.config = s.bus.config := by cases o <;> simp [read16]
@[simp] theorem read16_d (s : State) (o : Opnd16) : ((read16 o s).2).d = s.d := by simp [State.d]
@[simp] theorem read16_flag (s : State) (o : Opnd16) (f : Flag) : ((read16 o s).2).flag f = s.flag f := by simp [State.flag]
@[simp] theorem read16_byteAt (s : State) (o : Opnd16) (w : Word) : ((read16 o s).2).byteAt w = s.byteAt w := by simp [State.byteAt]
@[simp] theorem read16_wordAt (s : State) (o : Opnd16) (w : Word) : ((read16 o s).2).wordAt w = s.wordAt w := by simp [State.wordAt]

@[simp] theorem updateA_b (s : State) (g : Byte → Byte → Byte → Res8) (o : Opnd8) : (updateA g o s).b = s.b := by simp [updateA]
@[simp] theorem updateA_x (s : State) (g : Byte → Byte → Byte → Res8) (o : Opnd8) : (updateA g o s).x = s.x := by simp [updateA]
@[simp] theorem updateA_y (s : State) (g : Byte → Byte → Byte → Res8) (o : Opnd8) : (updateA g o s).y = s.y := by simp [updateA]
@[simp] theorem updateA_sp (s : State) (g : Byte → Byte → Byte → Res8) (o : Opnd8) : (updateA g o s).sp = s.sp := by simp [updateA]
@[simp] theorem updateA_pc (s : State) (g : Byte → Byte → Byte → Res8) (o : Opnd8) : (updateA g o s).pc = s.pc := by simp [updateA]
@[simp] theorem updateA_cycles (s : State) (g : Byte → Byte → Byte → Res8) (o : Opnd8) : (updateA g o s).cycles = s.cycles := by simp [updateA]
@[simp] theorem updateA_lastPc (s : State) (g : Byte → Byte → Byte → Res8) (o : Opnd8) : (updateA g o s).lastPc = s.lastPc := by simp [updateA]
@[simp] theorem updateA_status (s : State) (g : Byte → Byte → Byte → Res8) (o : Opnd8) : (updateA g o s).status = s.status := by simp [updateA]
@[simp] theorem updateA_mem (s : State) (g : Byte → Byte → Byte → Res8) (o : Opnd8) : (updateA g o s).mem = s.mem := by simp [updateA]
@[simp] theorem updateA_freeCount (s : State) (g : Byte → Byte → Byte → Res8) (o : Opnd8) : (updateA g o s).freeCount = s.freeCount := by simp [updateA]
@[simp] theorem updateA_config (s : State) (g : Byte → Byte → Byte → Res8) (o : Opnd8) : (updateA g o s).bus.config = s.bus.config := by simp [updateA]
@[simp] theorem updateA_byteAt (s : State) (g : Byte → Byte → Byte → Res8) (o : Opnd8) (w : Word) : (updateA g o s).byteAt w = s.byteAt w := by simp [State.byteAt]
@[simp] theorem updateA_wordAt (s : State) (g : Byte → Byte → Byte → Res8) (o : Opnd8) (w : Word) : (updateA g o s).wordAt w = s.wordAt w := by simp [State.wordAt]

@[simp] theorem updateB_a (s : State) (g : Byte → Byte → Byte → Res8) (o : Opnd8) : (updateB g o s).a = s.a := by simp [updateB]
@[simp] theorem updateB_x (s : State) (g : Byte → Byte → Byte → Res8) (o : Opnd8) : (updateB g o s).x = s.x := by simp [updateB]
@[simp] theorem updateB_y (s : State) (g : Byte → Byte → Byte → Res8) (o : Opnd8) : (updateB g o s).y = s.y := by simp [updateB]
@[simp] theorem updateB_sp (s : State) (g : Byte → Byte → Byte → Res8) (o : Opnd8) : (updateB g o s).sp = s.sp := by simp [updateB]
@[simp] theorem updateB_pc (s : State) (g : Byte → Byte → Byte → Res8) (o : Opnd8) : (updateB g o s).pc = s.pc := by simp [updateB]
@[simp] theorem updateB_cycles (s : State) (g : Byte → Byte → Byte → Res8) (o : Opnd8) : (updateB g o s).cycles = s.cycles := by simp [updateB]
@[simp] theorem updateB_lastPc (s : State) (g : Byte → Byte → Byte → Res8) (o : Opnd8) : (updateB g o s).lastPc = s.lastPc := by simp [updateB]
@[simp] theorem updateB_status (s : State) (g : Byte → Byte → Byte → Res8) (o : Opnd8) : (updateB g o s).status = s.status := by simp [updateB]
@[simp] theorem updateB_mem (s : State) (g : Byte → Byte → Byte → Res8) (o : Opnd8) : (updateB g o s).mem = s.mem := by simp [updateB]
@[simp] theorem updateB_freeCount (s : State) (g : Byte → Byte → Byte → Res8) (o : Opnd8) : (updateB g o s).freeCount = s.freeCount := by simp [updateB]
@[simp] theorem updateB_config (s : State) (g : Byte → Byte → Byte → Res8) (o : Opnd8) : (updateB g o s).bus.config = s.bus.config := by simp [updateB]
@[simp] theorem updateB_byteAt (s : State) (g : Byte → Byte → Byte → Res8) (o : Opnd8) (w : Word) : (updateB g o s).byteAt w = s.byteAt w := by simp [State.byteAt]
@[simp] theorem updateB_wordAt (s : State) (g : Byte → Byte → Byte → Res8) (o : Opnd8) (w : Word) : (updateB g o s).wordAt w = s.wordAt w := by simp [State.wordAt]

@[simp] theorem updateD_x (s : State) (g : Word → Word → Byte → Res16) (o : Opnd16) : (updateD g o s).x = s.x := by simp [updateD]
@[simp] theorem updateD_y (s : State) (g : Word → Word → Byte → Res16) (o : Opnd16) : (updateD g o s).y = s.y := by simp [updateD]
@[simp] theorem updateD_sp (s : State) (g : Word → Word → Byte → Res16) (o : Opnd16) : (updateD g o s).sp = s.sp := by simp [updateD]
@[simp] theorem updateD_pc (s : State) (g : Word → Word → Byte → Res16) (o : Opnd16) : (updateD g o s).pc = s.pc := by simp [updateD]
@[simp] theorem updateD_cycles (s : State) (g : Word → Word → Byte → Res16) (o : Opnd16) : (updateD g o s).cycles = s.cycles := by simp [updateD]
@[simp] theorem updateD_lastPc (s : State) (g : Word → Word → Byte → Res16) (o : Opnd16) : (updateD g o s).lastPc = s.lastPc := by simp [updateD]
@[simp] theorem updateD_status (s : State) (g : Word → Word → Byte → Res16) (o : Opnd16) : (updateD g o s).status = s.status := by simp [updateD]
@[simp] theorem updateD_mem (s : State) (g : Word → Word → Byte → Res16) (o : Opnd16) : (updateD g o s).mem = s.mem := by simp [updateD]
@[simp] theorem updateD_freeCount (s : State) (g : Word → Word → Byte → Res16) (o : Opnd16) : (updateD g o s).freeCount = s.freeCount := by simp [updateD]
@[simp] theorem updateD_config (s : State) (g : Word → Word → Byte → Res16) (o : Opnd16) : (updateD g o s).bus.config = s.bus.config := by simp [updateD]
@[simp] theorem updateD_byteAt (s : State) (g : Word → Word → Byte → Res16) (o : Opnd16) (w : Word) : (updateD g o s).byteAt w = s.byteAt w := by simp [State.byteAt]
@[simp] theorem updateD_wordAt (s : State) (g : Word → Word → Byte → Res16) (o : Opnd16) (w : Word) : (updateD g o s).wordAt w = s.wordAt w := by simp [State.wordAt]

@[simp] theorem compare8_a (s : State) (g : Byte → Byte → Byte → Byte) (v : Byte) (o : Opnd8) : (compare8 g v o s).a = s.a := by simp [compare8]
@[simp] theorem compare8_b (s : State) (g : Byte → Byte → Byte → Byte) (v : Byte) (o : Opnd8) : (compare8 g v o s).b = s.b := by simp [compare8]
@[simp] theorem compare8_x (s : State) (g : Byte → Byte → Byte → Byte) (v : Byte) (o : Opnd8) : (compare8 g v o s).x = s.x := by simp [compare8]
@[simp] theorem compare8_y (s : State) (g : Byte → Byte → Byte → Byte) (v : Byte) (o : Opnd8) : (compare8 g v o s).y = s.y := by simp [compare8]
@[simp] theorem compare8_sp (s : State) (g : Byte → Byte → Byte → Byte) (v : Byte) (o : Opnd8) : (compare8 g v o s).sp = s.sp := by simp [compare8]
@[simp] theorem compare8_pc (s : State) (g : Byte → Byte → Byte → Byte) (v : Byte) (o : Opnd8) : (compare8 g v o s).pc = s.pc := by simp [compare8]
@[simp] theorem compare8_cycles (s : State) (g : Byte → Byte → Byte → Byte) (v : Byte) (o : Opnd8) : (compare8 g v o s).cycles = s.cycles := by simp [compare8]
@[simp] theorem compare8_lastPc (s : State) (g : Byte → Byte → Byte → Byte) (v : Byte) (o : Opnd8) : (compare8 g v o s).lastPc = s.lastPc := by simp [compare8]
@[simp] theorem compare8_status (s : State) (g : Byte → Byte → Byte → Byte) (v : Byte) (o : Opnd8) : (compare8 g v o s).status = s.status := by simp [compare8]
@[simp] theorem compare8_mem (s : State) (g : Byte → Byte → Byte → Byte) (v : Byte) (o : Opnd8) : (compare8 g v o s).mem = s.mem := by simp [compare8]
@[simp] theorem compare8_freeCount (s : State) (g : Byte → Byte → Byte → Byte) (v : Byte) (o : Opnd8) : (compare8 g v o s).freeCount = s.freeCount := by simp [compare8]
@[simp] theorem compare8_config (s : State) (g : Byte → Byte → Byte → Byte) (v : Byte) (o : Opnd8) : (compare8 g v o s).bus.config = s.bus.config := by simp [compare8]
@[simp] theorem compare8_d (s : State) (g : Byte → Byte → Byte → Byte) (v : Byte) (o : Opnd8) : (compare8 g v o s).d = s.d := by simp [State.d]
@[simp] theorem compare8_byteAt (s : State) (g : Byte → Byte → Byte → Byte) (v : Byte) (o : Opnd8) (w : Word) : (compare8 g v o s).byteAt w = s.byteAt w := by simp [State.byteAt]
@[simp] theorem compare8_wordAt (s : State) (g : Byte → Byte → Byte → Byte) (v : Byte) (o : Opnd8) (w : Word) : (compare8 g v o s).wordAt w = s.wordAt w := by simp [State.wordAt]

@[simp] theorem compare16_a (s : State) (v : Word) (o : Opnd16) : (compare16 v o s).a = s.a := by simp [compare16]
@[simp] theorem compare16_b (s : State) (v : Word) (o : Opnd16) : (compare16 v o s).b = s.b := by simp [compare16]
@[simp] theorem compare16_x (s : State) (v : Word) (o : Opnd16) : (compare16 v o s).x = s.x := by simp [compare16]
@[simp] theorem compare16_y (s : State) (v : Word) (o : Opnd16) : (compare16 v o s).y = s.y := by simp [compare16]
@[simp] theorem compare16_sp (s : State) (v : Word) (o : Opnd16) : (compare16 v o s).sp = s.sp := by simp [compare16]
@[simp] theorem compare16_pc (s : State) (v : Word) (o : Opnd16) : (compare16 v o s).pc = s.pc := by simp [compare16]
@[simp] theorem compare16_cycles (s : State) (v : Word) (o : Opnd16) : (compare16 v o s).cycles = s.cycles := by simp [compare16]
@[simp] theorem compare16_lastPc (s : State) (v : Word) (o : Opnd16) : (compare16 v o s).lastPc = s.lastPc := by simp [compare16]
@[simp] theorem compare16_status (s : State) (v : Word) (o : Opnd16) : (compare16 v o s).status = s.status := by simp [compare16]
@[simp] theorem compare16_mem (s : State) (v : Word) (o : Opnd16) : (compare16 v o s).mem = s.mem := by simp [compare16]
@[simp] theorem compare16_freeCount (s : State) (v : Word) (o : Opnd16) : (compare16 v o s).freeCount = s.freeCount := by simp [compare16]
@[simp] theorem compare16_config (s : State) (v : Word) (o : Opnd16) : (compare16 v o s).bus.config = s.bus.config := by simp [compare16]
@[simp] theorem compare16_d (s : State) (v : Word) (o : Opnd16) : (compare16 v o s).d = s.d := by simp [State.d]
@[simp] theorem compare16_byteAt (s : State) (v : Word) (o : Opnd16) (w : Word) : (compare16 v o s).byteAt w = s.byteAt w := by simp [State.byteAt]
@[simp] theorem compare16_wordAt (s : State) (v : Word) (o : Opnd16) (w : Word) : (compare16 v o s).wordAt w = s.wordAt w := by simp [State.wordAt]

@[simp] theorem modifyA_b (s : State) (g : Byte → Byte → Res8) : (modifyA g s).b = s.b := by simp [modifyA]
@[simp] theorem modifyA_x (s : State) (g : Byte → Byte → Res8) : (modifyA g s).x = s.x := by simp [modifyA]
@[simp] theorem modifyA_y (s : State) (g : Byte → Byte → Res8) : (modifyA g s).y = s.y := by simp [modifyA]
@[simp] theorem modifyA_sp (s : State) (g : Byte → Byte → Res8) : (modifyA g s).sp = s.sp := by simp [modifyA]
@[simp] theorem modifyA_pc (s : State) (g : Byte → Byte → Res8) : (modifyA g s).pc = s.pc := by simp [modifyA]
@[simp] theorem modifyA_cycles (s : State) (g : Byte → Byte → Res8) : (modifyA g s).cycles = s.cycles := by simp [modifyA]
@[simp] theorem modifyA_lastPc (s : State) (g : Byte → Byte → Res8) : (modifyA g s).lastPc = s.lastPc := by simp [modifyA]
@[simp] theorem modifyA_status (s : State) (g : Byte → Byte → Res8) : (modifyA g s).status = s.status := by simp [modifyA]
@[simp] theorem modifyA_mem (s : State) (g : Byte → Byte → Res8) : (modifyA g s).mem = s.mem := by simp [modifyA]
@[simp] theorem modifyA_bus (s : State) (g : Byte → Byte → Res8) : (modifyA g s).bus = s.bus := by simp [modifyA]
@[simp] theorem modifyA_freeCount (s : State) (g : Byte → Byte → Res8) : (modifyA g s).freeCount = s.freeCount := by simp [modifyA]
@[simp] theorem modifyA_byteAt (s : State) (g : Byte → Byte → Res8) (w : Word) : (modifyA g s).byteAt w = s.byteAt w := by simp [State.byteAt]
@[simp] theorem modifyA_wordAt (s : State) (g : Byte → Byte → Res8) (w : Word) : (modifyA g s).wordAt w = s.wordAt w := by simp [State.wordAt]

@[simp] theorem modifyB_a (s : State) (g : Byte → Byte → Res8) : (modifyB g s).a = s.a := by simp [modifyB]
@[simp] theorem modifyB_x (s : State) (g : Byte → Byte → Res8) : (modifyB g s).x = s.x := by simp [modifyB]
@[simp] theorem modifyB_y (s : State) (g : Byte → Byte → Res8) : (modifyB g s).y = s.y := by simp [modifyB]
@[simp] theorem modifyB_sp (s : State) (g : Byte → Byte → Res8) : (modifyB g s).sp = s.sp := by simp [modifyB]
@[simp] theorem modifyB_pc (s : State) (g : Byte → Byte → Res8) : (modifyB g s).pc = s.pc := by simp [modifyB]
@[simp] theorem modifyB_cycles (s : State) (g : Byte → Byte → Res8) : (modifyB g s).cycles = s.cycles := by simp [modifyB]
@[simp] theorem modifyB_lastPc (s : State) (g : Byte → Byte → Res8) : (modifyB g s).lastPc = s.lastPc := by simp [modifyB]
@[simp] theorem modifyB_status (s : State) (g : Byte → Byte → Res8) : (modifyB g s).status = s.status := by simp [modifyB]
@[simp] theorem modifyB_mem (s : State) (g : Byte → Byte → Res8) : (modifyB g s).mem = s.mem := by simp [modifyB]
@[simp] theorem modifyB_bus (s : State) (g : Byte → Byte → Res8) : (modifyB g s).bus = s.bus := by simp [modifyB]
@[simp] theorem modifyB_freeCount (s : State) (g : Byte → Byte → Res8) : (modifyB g s).freeCount = s.freeCount := by simp [modifyB]
@[simp] theorem modifyB_byteAt (s : State) (g : Byte → Byte → Res8) (w : Word) : (modifyB g s).byteAt w = s.byteAt w := by simp [State.byteAt]
@[simp] theorem modifyB_wordAt (s : State) (g : Byte → Byte → Res8) (w : Word) : (modifyB g s).wordAt w = s.wordAt w := by simp [State.wordAt]

@[simp] theorem modifyMem_a (s : State) (g : Byte → Byte → Res8) (p : Word) : (modifyMem g p s).a = s.a := by simp [modifyMem]
@[simp] theorem modifyMem_b (s : State) (g : Byte → Byte → Res8) (p : Word) : (modifyMem g p s).b = s.b := by simp [modifyMem]
@[simp] theorem modifyMem_x (s : State) (g : Byte → Byte → Res8) (p : Word) : (modifyMem g p s).x = s.x := by simp [modifyMem]
@[simp] theorem modifyMem_y (s : State) (g : Byte → Byte → Res8) (p : Word) : (modifyMem g p s).y = s.y := by simp [modifyMem]
@[simp] theorem modifyMem_sp (s : State) (g : Byte → Byte → Res8) (p : Word) : (modifyMem g p s).sp = s.sp := by simp [modifyMem]
@[simp] theorem modifyMem_pc (s : State) (g : Byte → Byte → Res8) (p : Word) : (modifyMem g p s).pc = s.pc := by simp [modifyMem]
@[simp] theorem modifyMem_cycles (s : State) (g : Byte → Byte → Res8) (p : Word) : (modifyMem g p s).cycles = s.cycles := by simp [modifyMem]
@[simp] theorem modifyMem_lastPc (s : State) (g : Byte → Byte → Res8) (p : Word) : (modifyMem g p s).lastPc = s.lastPc := by simp [modifyMem]
@[simp] theorem modifyMem_status (s : State) (g : Byte → Byte → Res8) (p : Word) : (modifyMem g p s).status = s.status := by simp [modifyMem]
@[simp] theorem modifyMem_freeCount (s : State) (g : Byte → Byte → Res8) (p : Word) : (modifyMem g p s).freeCount = s.freeCount := by simp [modifyMem]
@[simp] theorem modifyMem_config (s : State) (g : Byte → Byte → Res8) (p : Word) : (modifyMem g p s).bus.config = s.bus.config := by simp [modifyMem]
@[simp] theorem modifyMem_d (s : State) (g : Byte → Byte → Res8) (p : Word) : (modifyMem g p s).d = s.d := by simp [State.d]

@[simp] theorem store8_a (s : State) (v : Byte) (m : Ea) : (store8 v m s).a = s.a := by simp [store8]
@[simp] theorem store8_b (s : State) (v : Byte) (m : Ea) : (store8 v m s).b = s.b := by simp [store8]
@[simp] theorem store8_x (s : State) (v : Byte) (m : Ea) : (store8 v m s).x = s.x := by simp [store8]
@[simp] theorem store8_y (s : State) (v : Byte) (m : Ea) : (store8 v m s).y = s.y := by simp [store8]
@[simp] theorem store8_sp (s : State) (v : Byte) (m : Ea) : (store8 v m s).sp = s.sp := by simp [store8]
@[simp] theorem store8_pc (s : State) (v : Byte) (m : Ea) : (store8 v m s).pc = s.pc := by simp [store8]
@[simp] theorem store8_cycles (s : State) (v : Byte) (m : Ea) : (store8 v m s).cycles = s.cycles := by simp [store8]
@[simp] theorem store8_lastPc (s : State) (v : Byte) (m : Ea) : (store8 v m s).lastPc = s.lastPc := by simp [store8]
@[simp] theorem store8_status (s : State) (v : Byte) (m : Ea) : (store8 v m s).status = s.status := by simp [store8]
@[simp] theorem store8_freeCount (s : State) (v : Byte) (m : Ea) : (store8 v m s).freeCount = s.freeCount := by simp [store8]
@[simp] theorem store8_config (s : State) (v : Byte) (m : Ea) : (store8 v m s).bus.config = s.bus.config := by simp [store8]
@[simp] theorem store8_d (s : State) (v : Byte) (m : Ea) : (store8 v m s).d = s.d := by simp [State.d]

@[simp] theorem store16_a (s : State) (v : Word) (m : Ea) : (store16 v m s).a = s.a := by simp [store16]
@[simp] theorem store16_b (s : State) (v : Word) (m : Ea) : (store16 v m s).b = s.b := by simp [store16]
@[simp] theorem store16_x (s : State) (v : Word) (m : Ea) : (store16 v m s).x = s.x := by simp [store16]
@[simp] theorem store16_y (s : State) (v : Word) (m : Ea) : (store16 v m s).y = s.y := by simp [store16]
@[simp] theorem store16_sp (s : State) (v : Word) (m : Ea) : (store16 v m s).sp = s.sp := by simp [store16]
@[simp] theorem store16_pc (s : State) (v : Word) (m : Ea) : (store16 v m s).pc = s.pc := by simp [store16]
@[simp] theorem store16_cycles (s : State) (v : Word) (m : Ea) : (store16 v m s).cycles = s.cycles := by simp [store16]
@[simp] theorem store16_lastPc (s : State) (v : Word) (m : Ea) : (store16 v m s).lastPc = s.lastPc := by simp [store16]
@[simp] theorem store16_status (s : State) (v : Word) (m : Ea) : (store16 v m s).status = s.status := by simp [store16]
@[simp] theorem store16_freeCount (s : State) (v : Word) (m : Ea) : (store16 v m s).freeCount = s.freeCount := by simp [store16]
@[simp] theorem store16_config (s : State) (v : Word) (m : Ea) : (store16 v m s).bus.config = s.bus.config := by simp [store16]
@[simp] theorem store16_d (s : State) (v : Word) (m : Ea) : (store16 v m s).d = s.d := by simp [State.d]

@[simp] theorem branchIf_a (s : State) (k : Bool) (rr : Byte) : (branchIf k rr s).a = s.a := by cases k <;> simp [branchIf]
@[simp] theorem branchIf_b (s : State) (k : Bool) (rr : Byte) : (branchIf k rr s).b = s.b := by cases k <;> simp [branchIf]
@[simp] theorem branchIf_x (s : State) (k : Bool) (rr : Byte) : (branchIf k rr s).x = s.x := by cases k <;> simp [branchIf]
@[simp] theorem branchIf_y (s : State) (k : Bool) (rr : Byte) : (branchIf k rr s).y = s.y := by cases k <;> simp [branchIf]
@[simp] theorem branchIf_sp (s : State) (k : Bool) (rr : Byte) : (branchIf k rr s).sp = s.sp := by cases k <;> simp [branchIf]
@[simp] theorem branchIf_ccr (s : State) (k : Bool) (rr : Byte) : (branchIf k rr s).ccr = s.ccr := by cases k <;> simp [branchIf]
@[simp] theorem branchIf_cycles (s : State) (k : Bool) (rr : Byte) : (branchIf k rr s).cycles = s.cycles := by cases k <;> simp [branchIf]
@[simp] theorem branchIf_lastPc (s : State) (k : Bool) (rr : Byte) : (branchIf k rr s).lastPc = s.lastPc := by cases k <;> simp [branchIf]
@[simp] theorem branchIf_status (s : State) (k : Bool) (rr : Byte) : (branchIf k rr s).status = s.status := by cases k <;> simp [branchIf]
@[simp] theorem branchIf_mem (s : State) (k : Bool) (rr : Byte) : (branchIf k rr s).mem = s.mem := by cases k <;> simp [branchIf]
@[simp] theorem branchIf_bus (s : State) (k : Bool) (rr : Byte) : (branchIf k rr s).bus = s.bus := by cases k <;> simp [branchIf]
@[simp] theorem branchIf_freeCount (s : State) (k : Bool) (rr : Byte) : (branchIf k rr s).freeCount = s.freeCount := by cases k <;> simp [branchIf]
@[simp] theorem branchIf_d (s : State) (k : Bool) (rr : Byte) : (branchIf k rr s).d = s.d := by simp [State.d]
@[simp] theorem branchIf_flag (s : State) (k : Bool) (rr : Byte) (f : Flag) : (branchIf k rr s).flag f = s.flag f := by simp [State.flag]
@[simp] theorem branchIf_byteAt (s : State) (k : Bool) (rr : Byte) (w : Word) : (branchIf k rr s).byteAt w = s.byteAt w := by simp [State.byteAt]
@[simp] theorem branchIf_wordAt (s : State) (k : Bool) (rr : Byte) (w : Word) : (branchIf k rr s).wordAt w = s.wordAt w := by simp [State.wordAt]

@[simp] theorem bitBranch_a (s : State) (g : Byte → Bool) (m : EaNoExt) (k rr : Byte) : (bitBranch g m k rr s).a = s.a := by simp [bitBranch]
@[simp] theorem bitBranch_b (s : State) (g : Byte → Bool) (m : EaNoExt) (k rr : Byte) : (bitBranch g m k rr s).b = s.b := by simp [bitBranch]
@[simp] theorem bitBranch_x (s : State) (g : Byte → Bool) (m : EaNoExt) (k rr : Byte) : (bitBranch g m k rr s).x = s.x := by simp [bitBranch]
@[simp] theorem bitBranch_y (s : State) (g : Byte → Bool) (m : EaNoExt) (k rr : Byte) : (bitBranch g m k rr s).y = s.y := by simp [bitBranch]
@[simp] theorem bitBranch_sp (s : State) (g : Byte → Bool) (m : EaNoExt) (k rr : Byte) : (bitBranch g m k rr s).sp = s.sp := by simp [bitBranch]
@[simp] theorem bitBranch_cycles (s : State) (g : Byte → Bool) (m : EaNoExt) (k rr : Byte) : (bitBranch g m k rr s).cycles = s.cycles := by simp [bitBranch]
@[simp] theorem bitBranch_lastPc (s : State) (g : Byte → Bool) (m : EaNoExt) (k rr : Byte) : (bitBranch g m k rr s).lastPc = s.lastPc := by simp [bitBranch]
@[simp] theorem bitBranch_status (s : State) (g : Byte → Bool) (m : EaNoExt) (k rr : Byte) : (bitBranch g m k rr s).status = s.status := by simp [bitBranch]
@[simp] theorem bitBranch_mem (s : State) (g : Byte → Bool) (m : EaNoExt) (k rr : Byte) : (bitBranch g m k rr s).mem = s.mem := by simp [bitBranch]
@[simp] theorem bitBranch_freeCount (s : State) (g : Byte → Bool) (m : EaNoExt) (k rr : Byte) : (bitBranch g m k rr s).freeCount = s.freeCount := by simp [bitBranch]
@[simp] theorem bitBranch_config (s : State) (g : Byte → Bool) (m : EaNoExt) (k rr : Byte) : (bitBranch g m k rr s).bus.config = s.bus.config := by simp [bitBranch]
@[simp] theorem bitBranch_d (s : State) (g : Byte → Bool) (m : EaNoExt) (k rr : Byte) : (bitBranch g m k rr s).d = s.d := by simp [State.d]
@[simp] theorem bitBranch_byteAt (s : State) (g : Byte → Bool) (m : EaNoExt) (k rr : Byte) (w : Word) : (bitBranch g m k rr s).byteAt w = s.byteAt w := by simp [State.byteAt]
@[simp] theorem bitBranch_wordAt (s : State) (g : Byte → Bool) (m : EaNoExt) (k rr : Byte) (w : Word) : (bitBranch g m k rr s).wordAt w = s.wordAt w := by simp [State.wordAt]

@[simp] theorem divideByZero_a (s : State) : (divideByZero s).a = s.a := by simp [divideByZero]
@[simp] theorem divideByZero_b (s : State) : (divideByZero s).b = s.b := by simp [divideByZero]
@[simp] theorem divideByZero_y (s : State) : (divideByZero s).y = s.y := by simp [divideByZero]
@[simp] theorem divideByZero_sp (s : State) : (divideByZero s).sp = s.sp := by simp [divideByZero]
@[simp] theorem divideByZero_pc (s : State) : (divideByZero s).pc = s.pc := by simp [divideByZero]
@[simp] theorem divideByZero_cycles (s : State) : (divideByZero s).cycles = s.cycles := by simp [divideByZero]
@[simp] theorem divideByZero_lastPc (s : State) : (divideByZero s).lastPc = s.lastPc := by simp [divideByZero]
@[simp] theorem divideByZero_status (s : State) : (divideByZero s).status = s.status := by simp [divideByZero]
@[simp] theorem divideByZero_mem (s : State) : (divideByZero s).mem = s.mem := by simp [divideByZero]
@[simp] theorem divideByZero_bus (s : State) : (divideByZero s).bus = s.bus := by simp [divideByZero]
@[simp] theorem divideByZero_freeCount (s : State) : (divideByZero s).freeCount = s.freeCount := by simp [divideByZero]
@[simp] theorem divideByZero_d (s : State) : (divideByZero s).d = s.d := by simp [State.d]
@[simp] theorem divideByZero_byteAt (s : State) (w : Word) : (divideByZero s).byteAt w = s.byteAt w := by simp [State.byteAt]
@[simp] theorem divideByZero_wordAt (s : State) (w : Word) : (divideByZero s).wordAt w = s.wordAt w := by simp [State.wordAt]

@[simp] theorem divideFlags_a (s : State) (q : Word) (v : Bool) : (divideFlags q v s).a = s.a := by simp [divideFlags]
@[simp] theorem divideFlags_b (s : State) (q : Word) (v : Bool) : (divideFlags q v s).b = s.b := by simp [divideFlags]
@[simp] theorem divideFlags_x (s : State) (q : Word) (v : Bool) : (divideFlags q v s).x = s.x := by simp [divideFlags]
@[simp] theorem divideFlags_y (s : State) (q : Word) (v : Bool) : (divideFlags q v s).y = s.y := by simp [divideFlags]
@[simp] theorem divideFlags_sp (s : State) (q : Word) (v : Bool) : (divideFlags q v s).sp = s.sp := by simp [divideFlags]
@[simp] theorem divideFlags_pc (s : State) (q : Word) (v : Bool) : (divideFlags q v s).pc = s.pc := by simp [divideFlags]
@[simp] theorem divideFlags_cycles (s : State) (q : Word) (v : Bool) : (divideFlags q v s).cycles = s.cycles := by simp [divideFlags]
@[simp] theorem divideFlags_lastPc (s : State) (q : Word) (v : Bool) : (divideFlags q v s).lastPc = s.lastPc := by simp [divideFlags]
@[simp] theorem divideFlags_status (s : State) (q : Word) (v : Bool) : (divideFlags q v s).status = s.status := by simp [divideFlags]
@[simp] theorem divideFlags_mem (s : State) (q : Word) (v : Bool) : (divideFlags q v s).mem = s.mem := by simp [divideFlags]
@[simp] theorem divideFlags_bus (s : State) (q : Word) (v : Bool) : (divideFlags q v s).bus = s.bus := by simp [divideFlags]
@[simp] theorem divideFlags_freeCount (s : State) (q : Word) (v : Bool) : (divideFlags q v s).freeCount = s.freeCount := by simp [divideFlags]
@[simp] theorem divideFlags_d (s : State) (q : Word) (v : Bool) : (divideFlags q v s).d = s.d := by simp [State.d]
@[simp] theorem divideFlags_byteAt (s : State) (q : Word) (v : Bool) (w : Word) : (divideFlags q v s).byteAt w = s.byteAt w := by simp [State.byteAt]
@[simp] theorem divideFlags_wordAt (s : State) (q : Word) (v : Bool) (w : Word) : (divideFlags q v s).wordAt w = s.wordAt w := by simp [State.wordAt]

@[simp] theorem divideInteger_y (s : State) : (divideInteger s).y = s.y := by simp [divideInteger]
@[simp] theorem divideInteger_sp (s : State) : (divideInteger s).sp = s.sp := by simp [divideInteger]
@[simp] theorem divideInteger_pc (s : State) : (divideInteger s).pc = s.pc := by simp [divideInteger]
@[simp] theorem divideInteger_cycles (s : State) : (divideInteger s).cycles = s.cycles := by simp [divideInteger]
@[simp] theorem divideInteger_lastPc (s : State) : (divideInteger s).lastPc = s.lastPc := by simp [divideInteger]
@[simp] theorem divideInteger_status (s : State) : (divideInteger s).status = s.status := by simp [divideInteger]
@[simp] theorem divideInteger_mem (s : State) : (divideInteger s).mem = s.mem := by simp [divideInteger]
@[simp] theorem divideInteger_bus (s : State) : (divideInteger s).bus = s.bus := by simp [divideInteger]
@[simp] theorem divideInteger_freeCount (s : State) : (divideInteger s).freeCount = s.freeCount := by simp [divideInteger]
@[simp] theorem divideInteger_byteAt (s : State) (w : Word) : (divideInteger s).byteAt w = s.byteAt w := by simp [State.byteAt]
@[simp] theorem divideInteger_wordAt (s : State) (w : Word) : (divideInteger s).wordAt w = s.wordAt w := by simp [State.wordAt]

@[simp] theorem divideFraction_y (s : State) : (divideFraction s).y = s.y := by simp [divideFraction]
@[simp] theorem divideFraction_sp (s : State) : (divideFraction s).sp = s.sp := by simp [divideFraction]
@[simp] theorem divideFraction_pc (s : State) : (divideFraction s).pc = s.pc := by simp [divideFraction]
@[simp] theorem divideFraction_cycles (s : State) : (divideFraction s).cycles = s.cycles := by simp [divideFraction]
@[simp] theorem divideFraction_lastPc (s : State) : (divideFraction s).lastPc = s.lastPc := by simp [divideFraction]
@[simp] theorem divideFraction_status (s : State) : (divideFraction s).status = s.status := by simp [divideFraction]
@[simp] theorem divideFraction_mem (s : State) : (divideFraction s).mem = s.mem := by simp [divideFraction]
@[simp] theorem divideFraction_bus (s : State) : (divideFraction s).bus = s.bus := by simp [divideFraction]
@[simp] theorem divideFraction_freeCount (s : State) : (divideFraction s).freeCount = s.freeCount := by simp [divideFraction]
@[simp] theorem divideFraction_byteAt (s : State) (w : Word) : (divideFraction s).byteAt w = s.byteAt w := by simp [State.byteAt]
@[simp] theorem divideFraction_wordAt (s : State) (w : Word) : (divideFraction s).wordAt w = s.wordAt w := by simp [State.wordAt]

@[simp] theorem divideOverflow_y (s : State) : (divideOverflow s).y = s.y := by simp [divideOverflow]
@[simp] theorem divideOverflow_sp (s : State) : (divideOverflow s).sp = s.sp := by simp [divideOverflow]
@[simp] theorem divideOverflow_pc (s : State) : (divideOverflow s).pc = s.pc := by simp [divideOverflow]
@[simp] theorem divideOverflow_cycles (s : State) : (divideOverflow s).cycles = s.cycles := by simp [divideOverflow]
@[simp] theorem divideOverflow_lastPc (s : State) : (divideOverflow s).lastPc = s.lastPc := by simp [divideOverflow]
@[simp] theorem divideOverflow_status (s : State) : (divideOverflow s).status = s.status := by simp [divideOverflow]
@[simp] theorem divideOverflow_mem (s : State) : (divideOverflow s).mem = s.mem := by simp [divideOverflow]
@[simp] theorem divideOverflow_bus (s : State) : (divideOverflow s).bus = s.bus := by simp [divideOverflow]
@[simp] theorem divideOverflow_byteAt (s : State) (w : Word) : (divideOverflow s).byteAt w = s.byteAt w := by simp [State.byteAt]
@[simp] theorem divideOverflow_wordAt (s : State) (w : Word) : (divideOverflow s).wordAt w = s.wordAt w := by simp [State.wordAt]

/-! ## Values -/

@[simp] theorem operand8_imm (s : State) (v : Byte) : operand8 (.imm v) s = v := rfl
@[simp] theorem operand8_mem (s : State) (m : Ea) : operand8 (.mem m) s = s.byteAt (ea m s) := rfl
@[simp] theorem operand16_imm (s : State) (v : Word) : operand16 (.imm v) s = v := rfl
@[simp] theorem operand16_mem (s : State) (m : Ea) : operand16 (.mem m) s = s.wordAt (ea m s) := rfl
@[simp] theorem read8_value (s : State) (o : Opnd8) : (read8 o s).1 = operand8 o s := by cases o <;> rfl
@[simp] theorem read16_value (s : State) (o : Opnd16) : (read16 o s).1 = operand16 o s := by
  cases o <;> simp [read16, operand16]

@[simp] theorem updateA_a (s : State) (g : Byte → Byte → Byte → Res8) (o : Opnd8) :
    (updateA g o s).a = (g s.a (operand8 o s) s.ccr).value := by simp [updateA]
@[simp] theorem updateA_ccr (s : State) (g : Byte → Byte → Byte → Res8) (o : Opnd8) :
    (updateA g o s).ccr = (g s.a (operand8 o s) s.ccr).ccr := by simp [updateA]
@[simp] theorem updateB_b (s : State) (g : Byte → Byte → Byte → Res8) (o : Opnd8) :
    (updateB g o s).b = (g s.b (operand8 o s) s.ccr).value := by simp [updateB]
@[simp] theorem updateB_ccr (s : State) (g : Byte → Byte → Byte → Res8) (o : Opnd8) :
    (updateB g o s).ccr = (g s.b (operand8 o s) s.ccr).ccr := by simp [updateB]
@[simp] theorem updateD_d (s : State) (g : Word → Word → Byte → Res16) (o : Opnd16) :
    (updateD g o s).d = (g s.d (operand16 o s) s.ccr).value := by simp [updateD]
@[simp] theorem updateD_a (s : State) (g : Word → Word → Byte → Res16) (o : Opnd16) :
    (updateD g o s).a = hiByte (g s.d (operand16 o s) s.ccr).value := by simp [updateD]
@[simp] theorem updateD_b (s : State) (g : Word → Word → Byte → Res16) (o : Opnd16) :
    (updateD g o s).b = loByte (g s.d (operand16 o s) s.ccr).value := by simp [updateD]
@[simp] theorem updateD_ccr (s : State) (g : Word → Word → Byte → Res16) (o : Opnd16) :
    (updateD g o s).ccr = (g s.d (operand16 o s) s.ccr).ccr := by simp [updateD]
@[simp] theorem compare8_ccr (s : State) (g : Byte → Byte → Byte → Byte) (v : Byte) (o : Opnd8) :
    (compare8 g v o s).ccr = g v (operand8 o s) s.ccr := by simp [compare8]
@[simp] theorem compare16_ccr (s : State) (v : Word) (o : Opnd16) :
    (compare16 v o s).ccr = (sub16 v (operand16 o s) s.ccr).ccr := by simp [compare16]
@[simp] theorem modifyA_a (s : State) (g : Byte → Byte → Res8) : (modifyA g s).a = (g s.a s.ccr).value := by simp [modifyA]
@[simp] theorem modifyA_ccr (s : State) (g : Byte → Byte → Res8) : (modifyA g s).ccr = (g s.a s.ccr).ccr := by simp [modifyA]
@[simp] theorem modifyB_b (s : State) (g : Byte → Byte → Res8) : (modifyB g s).b = (g s.b s.ccr).value := by simp [modifyB]
@[simp] theorem modifyB_ccr (s : State) (g : Byte → Byte → Res8) : (modifyB g s).ccr = (g s.b s.ccr).ccr := by simp [modifyB]
@[simp] theorem modifyMem_byteAt (s : State) (g : Byte → Byte → Res8) (p w : Word) :
    (modifyMem g p s).byteAt w = if w = p then (g (s.byteAt p) s.ccr).value else s.byteAt w := by simp [modifyMem]
@[simp] theorem modifyMem_ccr (s : State) (g : Byte → Byte → Res8) (p : Word) :
    (modifyMem g p s).ccr = (g (s.byteAt p) s.ccr).ccr := by simp [modifyMem]
@[simp] theorem ea_setCcr (s : State) (m : Ea) (v : Byte) : ea m (s.setCcr v) = ea m s := by cases m <;> rfl
@[simp] theorem store8_byteAt (s : State) (v : Byte) (m : Ea) (w : Word) :
    (store8 v m s).byteAt w = if w = ea m s then v else s.byteAt w := by simp [store8]
@[simp] theorem modifyMem_mem (s : State) (g : Byte → Byte → Res8) (p : Word) :
    (modifyMem g p s).mem = s.mem.write p.toNat (g (s.byteAt p) s.ccr).value := by simp [modifyMem]
@[simp] theorem store8_mem (s : State) (v : Byte) (m : Ea) :
    (store8 v m s).mem = s.mem.write (ea m s).toNat v := by simp [store8]
theorem store16_mem (s : State) (v : Word) (m : Ea) :
    (store16 v m s).mem = (s.mem.write (ea m s).toNat (hiByte v)).write (ea m s + 1).toNat (loByte v) := by
  simp [store16, memWrite16_mem]
@[simp] theorem store8_ccr (s : State) (v : Byte) (m : Ea) : (store8 v m s).ccr = logic8 v s.ccr := by simp [store8]
@[simp] theorem store16_byteAt (s : State) (v : Word) (m : Ea) (w : Word) :
    (store16 v m s).byteAt w =
      if w = ea m s + 1 then loByte v else if w = ea m s then hiByte v else s.byteAt w := by simp [store16]
@[simp] theorem store16_ccr (s : State) (v : Word) (m : Ea) : (store16 v m s).ccr = logic16 v s.ccr := by simp [store16]
@[simp] theorem branchIf_pc (s : State) (k : Bool) (rr : Byte) :
    (branchIf k rr s).pc = if k then s.pc + sext16 rr else s.pc := by cases k <;> rfl
@[simp] theorem bitBranch_ccr (s : State) (g : Byte → Bool) (m : EaNoExt) (k rr : Byte) :
    (bitBranch g m k rr s).ccr = bitBranchFlags Config.brbitFlags (s.byteAt (ea m.toEa s) &&& k) s.ccr := by simp [bitBranch]
@[simp] theorem bitBranch_pc (s : State) (g : Byte → Bool) (m : EaNoExt) (k rr : Byte) :
    (bitBranch g m k rr s).pc = if g (s.byteAt (ea m.toEa s) &&& k) then s.pc + sext16 rr else s.pc := by simp [bitBranch]
@[simp] theorem divideByZero_x (s : State) : (divideByZero s).x = 0 := by simp [divideByZero]
@[simp] theorem divideByZero_ccr (s : State) :
    (divideByZero s).ccr = putFlag .c (s.d != 0) (putFlag .z true s.ccr) := by simp [divideByZero]
@[simp] theorem divideFlags_ccr (s : State) (q : Word) (v : Bool) :
    (divideFlags q v s).ccr = putFlag .c false (putFlag .v v (putFlag .z (q == 0) s.ccr)) := by simp [divideFlags]

@[simp] theorem divideInteger_x (s : State) : (divideInteger s).x = BitVec.ofNat 16 (s.d.toNat / s.x.toNat) := by simp [divideInteger]
@[simp] theorem divideInteger_d (s : State) : (divideInteger s).d = BitVec.ofNat 16 (s.d.toNat % s.x.toNat) := by simp [divideInteger]
@[simp] theorem divideInteger_a (s : State) : (divideInteger s).a = hiByte (BitVec.ofNat 16 (s.d.toNat % s.x.toNat)) := by simp [divideInteger]
@[simp] theorem divideInteger_b (s : State) : (divideInteger s).b = loByte (BitVec.ofNat 16 (s.d.toNat % s.x.toNat)) := by simp [divideInteger]
@[simp] theorem divideInteger_ccr (s : State) :
    (divideInteger s).ccr = putFlag .c false (putFlag .v false (putFlag .z (BitVec.ofNat 16 (s.d.toNat / s.x.toNat) == 0) s.ccr)) := by simp [divideInteger]
@[simp] theorem divideFraction_x (s : State) : (divideFraction s).x = BitVec.ofNat 16 (s.d.toNat * 65536 / s.x.toNat) := by simp [divideFraction]
@[simp] theorem divideFraction_d (s : State) : (divideFraction s).d = BitVec.ofNat 16 (s.d.toNat * 65536 % s.x.toNat) := by simp [divideFraction]
@[simp] theorem divideFraction_a (s : State) : (divideFraction s).a = hiByte (BitVec.ofNat 16 (s.d.toNat * 65536 % s.x.toNat)) := by simp [divideFraction]
@[simp] theorem divideFraction_b (s : State) : (divideFraction s).b = loByte (BitVec.ofNat 16 (s.d.toNat * 65536 % s.x.toNat)) := by simp [divideFraction]
@[simp] theorem divideFraction_ccr (s : State) :
    (divideFraction s).ccr = putFlag .c false (putFlag .v false (putFlag .z (BitVec.ofNat 16 (s.d.toNat * 65536 / s.x.toNat) == 0) s.ccr)) := by simp [divideFraction]
@[simp] theorem divideOverflow_x (s : State) : (divideOverflow s).x = Config.freeWord s.freeCount := by simp [divideOverflow]
@[simp] theorem divideOverflow_d (s : State) : (divideOverflow s).d = Config.freeWord (s.freeCount + 1) := by simp [divideOverflow]
@[simp] theorem divideOverflow_a (s : State) : (divideOverflow s).a = hiByte (Config.freeWord (s.freeCount + 1)) := by simp [divideOverflow]
@[simp] theorem divideOverflow_b (s : State) : (divideOverflow s).b = loByte (Config.freeWord (s.freeCount + 1)) := by simp [divideOverflow]
@[simp] theorem divideOverflow_freeCount (s : State) : (divideOverflow s).freeCount = s.freeCount + 2 := by simp [divideOverflow]
@[simp] theorem divideOverflow_ccr (s : State) :
    (divideOverflow s).ccr = putFlag .c false (putFlag .v true (putFlag .z (Config.freeWord s.freeCount == 0) s.ccr)) := by simp [divideOverflow]

/-! ## The canonical form of memory -/

theorem modifyMem_inv {s : State} (g : Byte → Byte → Res8) (p : Word) (h : s.mem.wf = true) :
    (modifyMem g p s).mem.wf = true := memWrite8_inv _ _ (by simpa using h)
theorem store8_inv {s : State} (v : Byte) (m : Ea) (h : s.mem.wf = true) : (store8 v m s).mem.wf = true :=
  memWrite8_inv _ _ (by simpa using h)
theorem store16_inv {s : State} (v : Word) (m : Ea) (h : s.mem.wf = true) : (store16 v m s).mem.wf = true :=
  memWrite16_inv _ _ (by simpa using h)

end Sys2Proof.Machine
end

