-- ==== Sys2Proof/Laws/Claims.lean ====
section
/-! SUPPORT. The claims' language in the model's own terms: how a frame is shown, and N and Z as bits. -/

namespace Sys2Proof.Machine

open Sys2Proof

/-- A frame is shown part by part: each is listed or is the same. -/
theorem onlyChanges_of {parts : List Part} {s t : State} (h : ∀ p : Part, p ∈ parts ∨ p.same s t) : OnlyChanges parts s t :=
  fun p hp => (h p).resolve_left hp

theorem memOnlyAt_of {addrs : List Word} {s t : State} (h : ∀ w : Word, w ∈ addrs ∨ t.byteAt w = s.byteAt w) :
    MemOnlyAt addrs s t := fun w hw => (h w).resolve_left hw

theorem byte_sign (r : Byte) : r[7] = decide (128 ≤ r.toNat) := by
  simpa [BitVec.msb_eq_getLsbD_last] using BitVec.msb_eq_decide r

theorem word_sign (r : Word) : r[15] = decide (32768 ≤ r.toNat) := by
  simpa [BitVec.msb_eq_getLsbD_last] using BitVec.msb_eq_decide r

theorem byte_zero (r : Byte) : (r == 0#8) = decide (r.toNat = 0) := by
  rw [Bool.eq_iff_iff]; simp [← BitVec.toNat_inj]

theorem word_zero (r : Word) : (r == 0#16) = decide (r.toNat = 0) := by
  rw [Bool.eq_iff_iff]; simp [← BitVec.toNat_inj]

theorem setsNz8_iff {r : Byte} {t : State} : SetsNz8 r t ↔ t.flag .n = r[7] ∧ t.flag .z = (r == 0#8) := by
  simp [SetsNz8, byte_sign, byte_zero]

theorem setsNz16_iff {r : Word} {t : State} : SetsNz16 r t ↔ t.flag .n = r[15] ∧ t.flag .z = (r == 0#16) := by
  simp [SetsNz16, word_sign, word_zero]

end Sys2Proof.Machine
end

