-- ==== Sys2Proof/Laws/Decode.lean ====
section
/-! SUPPORT. How the decoder reads bytes: by page, by row, and from a list as from a stream. -/

namespace Sys2Proof

theorem pageOfPrefix_eq_none (b : Byte) : pageOfPrefix b = none ↔ isPrefixByte b = false := by
  simp only [pageOfPrefix, isPrefixByte]
  repeat' split
  all_goals simp_all

/-- The bytes before the opcode bring the decoder to the page. -/
theorem pageOfPrefix_prefixByte (p : PrefixByte) : (pageOfPrefix p.byte).isSome = true := by cases p <;> rfl

/-- The page of a prefix is reached by that prefix alone. -/
theorem prefixOfPage_pageOfPrefix {b : Byte} {p : Page} (h : pageOfPrefix b = some p) : prefixOfPage p = [b] := by
  unfold pageOfPrefix at h
  repeat' split at h
  all_goals simp_all [prefixOfPage]
  all_goals subst h; rfl

theorem decodeStream_page1 {get : Nat → Byte} (h : pageOfPrefix (get 0) = none) :
    decodeStream get = decodeOn .p1 (get 0) fun n => get (n + 1) := by simp [decodeStream, h]

theorem decodeStream_prefixed {get : Nat → Byte} {p : Page} (h : pageOfPrefix (get 0) = some p) :
    decodeStream get = decodeOn p (get 1) fun n => get (n + 2) := by simp [decodeStream, h]

theorem decodeOn_none {p : Page} {op : Byte} (get : Nat → Byte) (h : lookup p op = none) :
    decodeOn p op get = .invalid p op := by simp [decodeOn, h]

theorem decodeOn_some {p : Page} {op : Byte} {r : Row} (get : Nat → Byte) (h : lookup p op = some r) :
    decodeOn p op get = r.form.build get := by simp [decodeOn, h]

/-- The table has a row for exactly the bytes the spec's maps list (30_encoding.md R88, R91 to R94). -/
theorem lookup_isSome (p : Page) (op : Byte) : (lookup p op).isSome = mapped p op := by
  cases p <;> (revert op; decide +kernel)

/-- A row found is the row of the opcode asked for. -/
theorem lookup_op {p : Page} {op : Byte} {r : Row} (h : lookup p op = some r) : r.op = op := by
  simpa using List.find?_some h

end Sys2Proof
end

