-- ==== Sys2Proof/Laws/Step.lean ====
section
/-! SUPPORT. What a step can be: the meaning of the instruction at PC with the step's bookkeeping around it, or an idle step. -/

namespace Sys2Proof.Machine

open Sys2Proof

/-- Every meaning answers a next state. -/
theorem exec_next (i : Instr) (s : State) : ∃ t, exec i s = .next t := by cases i <;> exact ⟨_, rfl⟩

theorem beginInstr_eq (i : Instr) (s : State) :
    beginInstr i s =
      { s with
        lastPc := s.pc
        pc := s.pc + BitVec.ofNat 16 i.length
        bus := { s.bus with events := fetchEvents i.length s } } := rfl

theorem idleStep_eq (s : State) :
    idleStep s = { s with lastPc := s.pc, cycles := s.cycles + 1, bus := { s.bus with events := [] } } := rfl

/-- All that a step can do (30_encoding.md R86). -/
theorem step_cases {s t : State} (h : step s = .next t) :
    (s.status = .running ∧
      ∃ u, exec (fetchInstr s) (beginInstr (fetchInstr s) s) = .next u ∧ t = chargeCycles (fetchInstr s) u) ∨
    (s.status ≠ .running ∧ t = idleStep s) := by
  unfold step at h
  split at h
  · obtain ⟨u, hu⟩ := exec_next (fetchInstr s) (beginInstr (fetchInstr s) s)
    rw [hu] at h
    cases h
    exact .inl ⟨‹_›, u, hu, rfl⟩
  · cases h
    exact .inr ⟨‹_›, rfl⟩

/-- No meaning touches last_pc, the cycles or the host's configuration. -/
theorem exec_bookkeeping {i : Instr} {s t : State} (h : exec i s = .next t) :
    t.lastPc = s.lastPc ∧ t.cycles = s.cycles ∧ t.bus.config = s.bus.config := by
  cases i
  case idiv => cases h; split <;> simp
  case fdiv => cases h; repeat' split
               all_goals simp
  case stop => cases h; split <;> simp
  all_goals (cases h; simp)

end Sys2Proof.Machine
end

