-- ==== Sys2Proof/Laws/Pacing.lean ====
section
/-! SUPPORT. What a polled step, a slice and a turn of the pacing loop can do: each always completes. -/

namespace Sys2Proof.Machine

open Sys2Proof

/-- Every step answers a next state, and so does its poll. -/
theorem polledStep_next (s : State) : ∃ t, step s = .next t ∧ polledStep s = .next (checkAfterStep t) := by
  by_cases hr : s.status = .running
  · obtain ⟨u, hu⟩ := exec_next (fetchInstr s) (beginInstr (fetchInstr s) s)
    exact ⟨chargeCycles (fetchInstr s) u, by simp [step, hr, hu], by simp [polledStep, step, hr, hu]⟩
  · exact ⟨idleStep s, by simp [step, hr], by simp [polledStep, step, hr]⟩

/-- The poll changes the latch alone. -/
theorem checkAfterStep_snd (s : State) :
    (checkAfterStep s).2 = s ∨ (checkAfterStep s).2 = s.setBus { s.bus with pending := none } := by
  unfold checkAfterStep
  split
  · exact .inr rfl
  · split
    · exact .inl rfl
    · exact .inl rfl

@[simp] theorem runSlice_budget_zero (bound : Nat) (s : State) : runSlice bound 0 s = .next (.budget, s) := by
  cases bound <;> rfl

/-- A slice that takes a step: it ends at the halt the poll reports, or goes on with what is left of the budget. -/
theorem runSlice_succ {s : State} {r : Option Word × State} (h : polledStep s = .next r) (bound : Nat) {budget : Nat}
    (hb : budget ≠ 0) :
    runSlice (bound + 1) budget s =
      match r.1 with
      | some p => .next (.halted p, r.2)
      | none => runSlice bound (budget - (r.2.cycles - s.cycles).toNat) r.2 := by
  obtain ⟨o, t⟩ := r
  cases o <;> simp [runSlice, hb, h]

@[simp] theorem SliceEnd.halt_halted (p : Word) : (SliceEnd.halted p).halt = some p := rfl
@[simp] theorem SliceEnd.halt_budget : SliceEnd.budget.halt = none := rfl
@[simp] theorem SliceEnd.halt_stepBound : SliceEnd.stepBound.halt = none := rfl

/-- `visualUpdate()` keeps a display's name. -/
@[simp] theorem Display.getName_visualUpdate (d : Display) : d.visualUpdate.getName = d.getName := rfl
@[simp] theorem Display.updates_visualUpdate (d : Display) : d.visualUpdate.updates = d.updates + 1 := rfl

/-- No turn is run with the flag clear. -/
@[simp] theorem Pacer.turn_false (p : Pacer) : p.turn false = .next p := by simp [Pacer.turn]

@[simp] theorem Pacer.resume_halt (p : Pacer) : p.resume.halt = none := rfl
@[simp] theorem Pacer.resume_core (p : Pacer) : p.resume.core = p.core := rfl

end Sys2Proof.Machine
end

