-- ==== Sys2Proof/Laws/PerInstr.lean ====
section
/-! SUPPORT. Facts of every instruction as syntax, one lemma per constructor. -/

/-- An instruction is 1 to 5 bytes (30_encoding.md R71, R73). -/
def Sys2Proof.Laws.Length.Statement (i : Sys2Proof.Instr) : Prop := 1 ≤ i.length ∧ i.length ≤ 5

/-- The bounds, from evaluating them. -/
theorem Sys2Proof.Laws.Length.of_checked {i : Sys2Proof.Instr} (h : (Nat.ble 1 i.length && Nat.ble i.length 5) = true) :
    Sys2Proof.Laws.Length.Statement i := by
  rw [Bool.and_eq_true] at h
  exact ⟨Nat.le_of_ble_eq_true h.1, Nat.le_of_ble_eq_true h.2⟩

open Sys2Proof

section

set_option Elab.async false

theorem Sys2Proof.Laws.Length.clra : Sys2Proof.Laws.Length.Statement .clra := Sys2Proof.Laws.Length.of_checked rfl
theorem Sys2Proof.Laws.Length.clrb : Sys2Proof.Laws.Length.Statement .clrb := Sys2Proof.Laws.Length.of_checked rfl
theorem Sys2Proof.Laws.Length.clr (m : EaNoDir) : Sys2Proof.Laws.Length.Statement (.clr m) := by cases m <;> exact Sys2Proof.Laws.Length.of_checked rfl
theorem Sys2Proof.Laws.Length.ldaa (o : Opnd8) : Sys2Proof.Laws.Length.Statement (.ldaa o) := by rcases o with _ | (_ | _ | _ | _) <;> exact Sys2Proof.Laws.Length.of_checked rfl
theorem Sys2Proof.Laws.Length.ldab (o : Opnd8) : Sys2Proof.Laws.Length.Statement (.ldab o) := by rcases o with _ | (_ | _ | _ | _) <;> exact Sys2Proof.Laws.Length.of_checked rfl
theorem Sys2Proof.Laws.Length.ldd (o : Opnd16) : Sys2Proof.Laws.Length.Statement (.ldd o) := by rcases o with _ | (_ | _ | _ | _) <;> exact Sys2Proof.Laws.Length.of_checked rfl
theorem Sys2Proof.Laws.Length.lds (o : Opnd16) : Sys2Proof.Laws.Length.Statement (.lds o) := by rcases o with _ | (_ | _ | _ | _) <;> exact Sys2Proof.Laws.Length.of_checked rfl
theorem Sys2Proof.Laws.Length.ldx (o : Opnd16) : Sys2Proof.Laws.Length.Statement (.ldx o) := by rcases o with _ | (_ | _ | _ | _) <;> exact Sys2Proof.Laws.Length.of_checked rfl
theorem Sys2Proof.Laws.Length.ldy (o : Opnd16) : Sys2Proof.Laws.Length.Statement (.ldy o) := by rcases o with _ | (_ | _ | _ | _) <;> exact Sys2Proof.Laws.Length.of_checked rfl
theorem Sys2Proof.Laws.Length.staa (m : Ea) : Sys2Proof.Laws.Length.Statement (.staa m) := by cases m <;> exact Sys2Proof.Laws.Length.of_checked rfl
theorem Sys2Proof.Laws.Length.stab (m : Ea) : Sys2Proof.Laws.Length.Statement (.stab m) := by cases m <;> exact Sys2Proof.Laws.Length.of_checked rfl
theorem Sys2Proof.Laws.Length.std (m : Ea) : Sys2Proof.Laws.Length.Statement (.std m) := by cases m <;> exact Sys2Proof.Laws.Length.of_checked rfl
theorem Sys2Proof.Laws.Length.sts (m : Ea) : Sys2Proof.Laws.Length.Statement (.sts m) := by cases m <;> exact Sys2Proof.Laws.Length.of_checked rfl
theorem Sys2Proof.Laws.Length.stx (m : Ea) : Sys2Proof.Laws.Length.Statement (.stx m) := by cases m <;> exact Sys2Proof.Laws.Length.of_checked rfl
theorem Sys2Proof.Laws.Length.sty (m : Ea) : Sys2Proof.Laws.Length.Statement (.sty m) := by cases m <;> exact Sys2Proof.Laws.Length.of_checked rfl
theorem Sys2Proof.Laws.Length.psha : Sys2Proof.Laws.Length.Statement .psha := Sys2Proof.Laws.Length.of_checked rfl
theorem Sys2Proof.Laws.Length.pshb : Sys2Proof.Laws.Length.Statement .pshb := Sys2Proof.Laws.Length.of_checked rfl
theorem Sys2Proof.Laws.Length.pshx : Sys2Proof.Laws.Length.Statement .pshx := Sys2Proof.Laws.Length.of_checked rfl
theorem Sys2Proof.Laws.Length.pshy : Sys2Proof.Laws.Length.Statement .pshy := Sys2Proof.Laws.Length.of_checked rfl
theorem Sys2Proof.Laws.Length.pula : Sys2Proof.Laws.Length.Statement .pula := Sys2Proof.Laws.Length.of_checked rfl
theorem Sys2Proof.Laws.Length.pulb : Sys2Proof.Laws.Length.Statement .pulb := Sys2Proof.Laws.Length.of_checked rfl
theorem Sys2Proof.Laws.Length.pulx : Sys2Proof.Laws.Length.Statement .pulx := Sys2Proof.Laws.Length.of_checked rfl
theorem Sys2Proof.Laws.Length.puly : Sys2Proof.Laws.Length.Statement .puly := Sys2Proof.Laws.Length.of_checked rfl
theorem Sys2Proof.Laws.Length.tab : Sys2Proof.Laws.Length.Statement .tab := Sys2Proof.Laws.Length.of_checked rfl
theorem Sys2Proof.Laws.Length.tba : Sys2Proof.Laws.Length.Statement .tba := Sys2Proof.Laws.Length.of_checked rfl
theorem Sys2Proof.Laws.Length.tsx : Sys2Proof.Laws.Length.Statement .tsx := Sys2Proof.Laws.Length.of_checked rfl
theorem Sys2Proof.Laws.Length.tsy : Sys2Proof.Laws.Length.Statement .tsy := Sys2Proof.Laws.Length.of_checked rfl
theorem Sys2Proof.Laws.Length.txs : Sys2Proof.Laws.Length.Statement .txs := Sys2Proof.Laws.Length.of_checked rfl
theorem Sys2Proof.Laws.Length.tys : Sys2Proof.Laws.Length.Statement .tys := Sys2Proof.Laws.Length.of_checked rfl
theorem Sys2Proof.Laws.Length.xgdx : Sys2Proof.Laws.Length.Statement .xgdx := Sys2Proof.Laws.Length.of_checked rfl
theorem Sys2Proof.Laws.Length.xgdy : Sys2Proof.Laws.Length.Statement .xgdy := Sys2Proof.Laws.Length.of_checked rfl
theorem Sys2Proof.Laws.Length.aba : Sys2Proof.Laws.Length.Statement .aba := Sys2Proof.Laws.Length.of_checked rfl
theorem Sys2Proof.Laws.Length.adda (o : Opnd8) : Sys2Proof.Laws.Length.Statement (.adda o) := by rcases o with _ | (_ | _ | _ | _) <;> exact Sys2Proof.Laws.Length.of_checked rfl
theorem Sys2Proof.Laws.Length.adca (o : Opnd8) : Sys2Proof.Laws.Length.Statement (.adca o) := by rcases o with _ | (_ | _ | _ | _) <;> exact Sys2Proof.Laws.Length.of_checked rfl
theorem Sys2Proof.Laws.Length.addb (o : Opnd8) : Sys2Proof.Laws.Length.Statement (.addb o) := by rcases o with _ | (_ | _ | _ | _) <;> exact Sys2Proof.Laws.Length.of_checked rfl
theorem Sys2Proof.Laws.Length.adcb (o : Opnd8) : Sys2Proof.Laws.Length.Statement (.adcb o) := by rcases o with _ | (_ | _ | _ | _) <;> exact Sys2Proof.Laws.Length.of_checked rfl
theorem Sys2Proof.Laws.Length.addd (o : Opnd16) : Sys2Proof.Laws.Length.Statement (.addd o) := by rcases o with _ | (_ | _ | _ | _) <;> exact Sys2Proof.Laws.Length.of_checked rfl
theorem Sys2Proof.Laws.Length.sba : Sys2Proof.Laws.Length.Statement .sba := Sys2Proof.Laws.Length.of_checked rfl
theorem Sys2Proof.Laws.Length.suba (o : Opnd8) : Sys2Proof.Laws.Length.Statement (.suba o) := by rcases o with _ | (_ | _ | _ | _) <;> exact Sys2Proof.Laws.Length.of_checked rfl
theorem Sys2Proof.Laws.Length.sbca (o : Opnd8) : Sys2Proof.Laws.Length.Statement (.sbca o) := by rcases o with _ | (_ | _ | _ | _) <;> exact Sys2Proof.Laws.Length.of_checked rfl
theorem Sys2Proof.Laws.Length.subb (o : Opnd8) : Sys2Proof.Laws.Length.Statement (.subb o) := by rcases o with _ | (_ | _ | _ | _) <;> exact Sys2Proof.Laws.Length.of_checked rfl
theorem Sys2Proof.Laws.Length.sbcb (o : Opnd8) : Sys2Proof.Laws.Length.Statement (.sbcb o) := by rcases o with _ | (_ | _ | _ | _) <;> exact Sys2Proof.Laws.Length.of_checked rfl
theorem Sys2Proof.Laws.Length.subd (o : Opnd16) : Sys2Proof.Laws.Length.Statement (.subd o) := by rcases o with _ | (_ | _ | _ | _) <;> exact Sys2Proof.Laws.Length.of_checked rfl
theorem Sys2Proof.Laws.Length.cba : Sys2Proof.Laws.Length.Statement .cba := Sys2Proof.Laws.Length.of_checked rfl
theorem Sys2Proof.Laws.Length.cmpa (o : Opnd8) : Sys2Proof.Laws.Length.Statement (.cmpa o) := by rcases o with _ | (_ | _ | _ | _) <;> exact Sys2Proof.Laws.Length.of_checked rfl
theorem Sys2Proof.Laws.Length.cmpb (o : Opnd8) : Sys2Proof.Laws.Length.Statement (.cmpb o) := by rcases o with _ | (_ | _ | _ | _) <;> exact Sys2Proof.Laws.Length.of_checked rfl
theorem Sys2Proof.Laws.Length.cpd (o : Opnd16) : Sys2Proof.Laws.Length.Statement (.cpd o) := by rcases o with _ | (_ | _ | _ | _) <;> exact Sys2Proof.Laws.Length.of_checked rfl
theorem Sys2Proof.Laws.Length.cpx (o : Opnd16) : Sys2Proof.Laws.Length.Statement (.cpx o) := by rcases o with _ | (_ | _ | _ | _) <;> exact Sys2Proof.Laws.Length.of_checked rfl
theorem Sys2Proof.Laws.Length.cpy (o : Opnd16) : Sys2Proof.Laws.Length.Statement (.cpy o) := by rcases o with _ | (_ | _ | _ | _) <;> exact Sys2Proof.Laws.Length.of_checked rfl
theorem Sys2Proof.Laws.Length.inca : Sys2Proof.Laws.Length.Statement .inca := Sys2Proof.Laws.Length.of_checked rfl
theorem Sys2Proof.Laws.Length.incb : Sys2Proof.Laws.Length.Statement .incb := Sys2Proof.Laws.Length.of_checked rfl
theorem Sys2Proof.Laws.Length.inc (m : EaNoDir) : Sys2Proof.Laws.Length.Statement (.inc m) := by cases m <;> exact Sys2Proof.Laws.Length.of_checked rfl
theorem Sys2Proof.Laws.Length.deca : Sys2Proof.Laws.Length.Statement .deca := Sys2Proof.Laws.Length.of_checked rfl
theorem Sys2Proof.Laws.Length.decb : Sys2Proof.Laws.Length.Statement .decb := Sys2Proof.Laws.Length.of_checked rfl
theorem Sys2Proof.Laws.Length.dec (m : EaNoDir) : Sys2Proof.Laws.Length.Statement (.dec m) := by cases m <;> exact Sys2Proof.Laws.Length.of_checked rfl
theorem Sys2Proof.Laws.Length.nega : Sys2Proof.Laws.Length.Statement .nega := Sys2Proof.Laws.Length.of_checked rfl
theorem Sys2Proof.Laws.Length.negb : Sys2Proof.Laws.Length.Statement .negb := Sys2Proof.Laws.Length.of_checked rfl
theorem Sys2Proof.Laws.Length.neg (m : EaNoDir) : Sys2Proof.Laws.Length.Statement (.neg m) := by cases m <;> exact Sys2Proof.Laws.Length.of_checked rfl
theorem Sys2Proof.Laws.Length.tsta : Sys2Proof.Laws.Length.Statement .tsta := Sys2Proof.Laws.Length.of_checked rfl
theorem Sys2Proof.Laws.Length.tstb : Sys2Proof.Laws.Length.Statement .tstb := Sys2Proof.Laws.Length.of_checked rfl
theorem Sys2Proof.Laws.Length.tst (m : EaNoDir) : Sys2Proof.Laws.Length.Statement (.tst m) := by cases m <;> exact Sys2Proof.Laws.Length.of_checked rfl
theorem Sys2Proof.Laws.Length.daa : Sys2Proof.Laws.Length.Statement .daa := Sys2Proof.Laws.Length.of_checked rfl
theorem Sys2Proof.Laws.Length.abx : Sys2Proof.Laws.Length.Statement .abx := Sys2Proof.Laws.Length.of_checked rfl
theorem Sys2Proof.Laws.Length.aby : Sys2Proof.Laws.Length.Statement .aby := Sys2Proof.Laws.Length.of_checked rfl
theorem Sys2Proof.Laws.Length.inx : Sys2Proof.Laws.Length.Statement .inx := Sys2Proof.Laws.Length.of_checked rfl
theorem Sys2Proof.Laws.Length.iny : Sys2Proof.Laws.Length.Statement .iny := Sys2Proof.Laws.Length.of_checked rfl
theorem Sys2Proof.Laws.Length.dex : Sys2Proof.Laws.Length.Statement .dex := Sys2Proof.Laws.Length.of_checked rfl
theorem Sys2Proof.Laws.Length.dey : Sys2Proof.Laws.Length.Statement .dey := Sys2Proof.Laws.Length.of_checked rfl
theorem Sys2Proof.Laws.Length.ins : Sys2Proof.Laws.Length.Statement .ins := Sys2Proof.Laws.Length.of_checked rfl
theorem Sys2Proof.Laws.Length.des : Sys2Proof.Laws.Length.Statement .des := Sys2Proof.Laws.Length.of_checked rfl
theorem Sys2Proof.Laws.Length.mul : Sys2Proof.Laws.Length.Statement .mul := Sys2Proof.Laws.Length.of_checked rfl
theorem Sys2Proof.Laws.Length.idiv : Sys2Proof.Laws.Length.Statement .idiv := Sys2Proof.Laws.Length.of_checked rfl
theorem Sys2Proof.Laws.Length.fdiv : Sys2Proof.Laws.Length.Statement .fdiv := Sys2Proof.Laws.Length.of_checked rfl
theorem Sys2Proof.Laws.Length.anda (o : Opnd8) : Sys2Proof.Laws.Length.Statement (.anda o) := by rcases o with _ | (_ | _ | _ | _) <;> exact Sys2Proof.Laws.Length.of_checked rfl
theorem Sys2Proof.Laws.Length.andb (o : Opnd8) : Sys2Proof.Laws.Length.Statement (.andb o) := by rcases o with _ | (_ | _ | _ | _) <;> exact Sys2Proof.Laws.Length.of_checked rfl
theorem Sys2Proof.Laws.Length.eora (o : Opnd8) : Sys2Proof.Laws.Length.Statement (.eora o) := by rcases o with _ | (_ | _ | _ | _) <;> exact Sys2Proof.Laws.Length.of_checked rfl
theorem Sys2Proof.Laws.Length.eorb (o : Opnd8) : Sys2Proof.Laws.Length.Statement (.eorb o) := by rcases o with _ | (_ | _ | _ | _) <;> exact Sys2Proof.Laws.Length.of_checked rfl
theorem Sys2Proof.Laws.Length.oraa (o : Opnd8) : Sys2Proof.Laws.Length.Statement (.oraa o) := by rcases o with _ | (_ | _ | _ | _) <;> exact Sys2Proof.Laws.Length.of_checked rfl
theorem Sys2Proof.Laws.Length.orab (o : Opnd8) : Sys2Proof.Laws.Length.Statement (.orab o) := by rcases o with _ | (_ | _ | _ | _) <;> exact Sys2Proof.Laws.Length.of_checked rfl
theorem Sys2Proof.Laws.Length.bita (o : Opnd8) : Sys2Proof.Laws.Length.Statement (.bita o) := by rcases o with _ | (_ | _ | _ | _) <;> exact Sys2Proof.Laws.Length.of_checked rfl
theorem Sys2Proof.Laws.Length.bitb (o : Opnd8) : Sys2Proof.Laws.Length.Statement (.bitb o) := by rcases o with _ | (_ | _ | _ | _) <;> exact Sys2Proof.Laws.Length.of_checked rfl
theorem Sys2Proof.Laws.Length.coma : Sys2Proof.Laws.Length.Statement .coma := Sys2Proof.Laws.Length.of_checked rfl
theorem Sys2Proof.Laws.Length.comb : Sys2Proof.Laws.Length.Statement .comb := Sys2Proof.Laws.Length.of_checked rfl
theorem Sys2Proof.Laws.Length.com (m : EaNoDir) : Sys2Proof.Laws.Length.Statement (.com m) := by cases m <;> exact Sys2Proof.Laws.Length.of_checked rfl
theorem Sys2Proof.Laws.Length.asla : Sys2Proof.Laws.Length.Statement .asla := Sys2Proof.Laws.Length.of_checked rfl
theorem Sys2Proof.Laws.Length.aslb : Sys2Proof.Laws.Length.Statement .aslb := Sys2Proof.Laws.Length.of_checked rfl
theorem Sys2Proof.Laws.Length.asl (m : EaNoDir) : Sys2Proof.Laws.Length.Statement (.asl m) := by cases m <;> exact Sys2Proof.Laws.Length.of_checked rfl
theorem Sys2Proof.Laws.Length.asra : Sys2Proof.Laws.Length.Statement .asra := Sys2Proof.Laws.Length.of_checked rfl
theorem Sys2Proof.Laws.Length.asrb : Sys2Proof.Laws.Length.Statement .asrb := Sys2Proof.Laws.Length.of_checked rfl
theorem Sys2Proof.Laws.Length.asr (m : EaNoDir) : Sys2Proof.Laws.Length.Statement (.asr m) := by cases m <;> exact Sys2Proof.Laws.Length.of_checked rfl
theorem Sys2Proof.Laws.Length.lsra : Sys2Proof.Laws.Length.Statement .lsra := Sys2Proof.Laws.Length.of_checked rfl
theorem Sys2Proof.Laws.Length.lsrb : Sys2Proof.Laws.Length.Statement .lsrb := Sys2Proof.Laws.Length.of_checked rfl
theorem Sys2Proof.Laws.Length.lsr (m : EaNoDir) : Sys2Proof.Laws.Length.Statement (.lsr m) := by cases m <;> exact Sys2Proof.Laws.Length.of_checked rfl
theorem Sys2Proof.Laws.Length.rola : Sys2Proof.Laws.Length.Statement .rola := Sys2Proof.Laws.Length.of_checked rfl
theorem Sys2Proof.Laws.Length.rolb : Sys2Proof.Laws.Length.Statement .rolb := Sys2Proof.Laws.Length.of_checked rfl
theorem Sys2Proof.Laws.Length.rol (m : EaNoDir) : Sys2Proof.Laws.Length.Statement (.rol m) := by cases m <;> exact Sys2Proof.Laws.Length.of_checked rfl
theorem Sys2Proof.Laws.Length.rora : Sys2Proof.Laws.Length.Statement .rora := Sys2Proof.Laws.Length.of_checked rfl
theorem Sys2Proof.Laws.Length.rorb : Sys2Proof.Laws.Length.Statement .rorb := Sys2Proof.Laws.Length.of_checked rfl
theorem Sys2Proof.Laws.Length.ror (m : EaNoDir) : Sys2Proof.Laws.Length.Statement (.ror m) := by cases m <;> exact Sys2Proof.Laws.Length.of_checked rfl
theorem Sys2Proof.Laws.Length.asld : Sys2Proof.Laws.Length.Statement .asld := Sys2Proof.Laws.Length.of_checked rfl
theorem Sys2Proof.Laws.Length.lsrd : Sys2Proof.Laws.Length.Statement .lsrd := Sys2Proof.Laws.Length.of_checked rfl
theorem Sys2Proof.Laws.Length.bset (m : EaNoExt) (mask : Byte) : Sys2Proof.Laws.Length.Statement (.bset m mask) := by cases m <;> exact Sys2Proof.Laws.Length.of_checked rfl
theorem Sys2Proof.Laws.Length.bclr (m : EaNoExt) (mask : Byte) : Sys2Proof.Laws.Length.Statement (.bclr m mask) := by cases m <;> exact Sys2Proof.Laws.Length.of_checked rfl
theorem Sys2Proof.Laws.Length.brset (m : EaNoExt) (mask rr : Byte) : Sys2Proof.Laws.Length.Statement (.brset m mask rr) := by cases m <;> exact Sys2Proof.Laws.Length.of_checked rfl
theorem Sys2Proof.Laws.Length.brclr (m : EaNoExt) (mask rr : Byte) : Sys2Proof.Laws.Length.Statement (.brclr m mask rr) := by cases m <;> exact Sys2Proof.Laws.Length.of_checked rfl
theorem Sys2Proof.Laws.Length.bra (rr : Byte) : Sys2Proof.Laws.Length.Statement (.bra rr) := Sys2Proof.Laws.Length.of_checked rfl
theorem Sys2Proof.Laws.Length.brn (rr : Byte) : Sys2Proof.Laws.Length.Statement (.brn rr) := Sys2Proof.Laws.Length.of_checked rfl
theorem Sys2Proof.Laws.Length.bhi (rr : Byte) : Sys2Proof.Laws.Length.Statement (.bhi rr) := Sys2Proof.Laws.Length.of_checked rfl
theorem Sys2Proof.Laws.Length.bls (rr : Byte) : Sys2Proof.Laws.Length.Statement (.bls rr) := Sys2Proof.Laws.Length.of_checked rfl
theorem Sys2Proof.Laws.Length.bcc (rr : Byte) : Sys2Proof.Laws.Length.Statement (.bcc rr) := Sys2Proof.Laws.Length.of_checked rfl
theorem Sys2Proof.Laws.Length.bcs (rr : Byte) : Sys2Proof.Laws.Length.Statement (.bcs rr) := Sys2Proof.Laws.Length.of_checked rfl
theorem Sys2Proof.Laws.Length.bne (rr : Byte) : Sys2Proof.Laws.Length.Statement (.bne rr) := Sys2Proof.Laws.Length.of_checked rfl
theorem Sys2Proof.Laws.Length.beq (rr : Byte) : Sys2Proof.Laws.Length.Statement (.beq rr) := Sys2Proof.Laws.Length.of_checked rfl
theorem Sys2Proof.Laws.Length.bvc (rr : Byte) : Sys2Proof.Laws.Length.Statement (.bvc rr) := Sys2Proof.Laws.Length.of_checked rfl
theorem Sys2Proof.Laws.Length.bvs (rr : Byte) : Sys2Proof.Laws.Length.Statement (.bvs rr) := Sys2Proof.Laws.Length.of_checked rfl
theorem Sys2Proof.Laws.Length.bpl (rr : Byte) : Sys2Proof.Laws.Length.Statement (.bpl rr) := Sys2Proof.Laws.Length.of_checked rfl
theorem Sys2Proof.Laws.Length.bmi (rr : Byte) : Sys2Proof.Laws.Length.Statement (.bmi rr) := Sys2Proof.Laws.Length.of_checked rfl
theorem Sys2Proof.Laws.Length.bge (rr : Byte) : Sys2Proof.Laws.Length.Statement (.bge rr) := Sys2Proof.Laws.Length.of_checked rfl
theorem Sys2Proof.Laws.Length.blt (rr : Byte) : Sys2Proof.Laws.Length.Statement (.blt rr) := Sys2Proof.Laws.Length.of_checked rfl
theorem Sys2Proof.Laws.Length.bgt (rr : Byte) : Sys2Proof.Laws.Length.Statement (.bgt rr) := Sys2Proof.Laws.Length.of_checked rfl
theorem Sys2Proof.Laws.Length.ble (rr : Byte) : Sys2Proof.Laws.Length.Statement (.ble rr) := Sys2Proof.Laws.Length.of_checked rfl
theorem Sys2Proof.Laws.Length.bsr (rr : Byte) : Sys2Proof.Laws.Length.Statement (.bsr rr) := Sys2Proof.Laws.Length.of_checked rfl
theorem Sys2Proof.Laws.Length.jmp (m : EaNoDir) : Sys2Proof.Laws.Length.Statement (.jmp m) := by cases m <;> exact Sys2Proof.Laws.Length.of_checked rfl
theorem Sys2Proof.Laws.Length.jsr (m : Ea) : Sys2Proof.Laws.Length.Statement (.jsr m) := by cases m <;> exact Sys2Proof.Laws.Length.of_checked rfl
theorem Sys2Proof.Laws.Length.rts : Sys2Proof.Laws.Length.Statement .rts := Sys2Proof.Laws.Length.of_checked rfl
theorem Sys2Proof.Laws.Length.clc : Sys2Proof.Laws.Length.Statement .clc := Sys2Proof.Laws.Length.of_checked rfl
theorem Sys2Proof.Laws.Length.sec : Sys2Proof.Laws.Length.Statement .sec := Sys2Proof.Laws.Length.of_checked rfl
theorem Sys2Proof.Laws.Length.clv : Sys2Proof.Laws.Length.Statement .clv := Sys2Proof.Laws.Length.of_checked rfl
theorem Sys2Proof.Laws.Length.sev : Sys2Proof.Laws.Length.Statement .sev := Sys2Proof.Laws.Length.of_checked rfl
theorem Sys2Proof.Laws.Length.cli : Sys2Proof.Laws.Length.Statement .cli := Sys2Proof.Laws.Length.of_checked rfl
theorem Sys2Proof.Laws.Length.sei : Sys2Proof.Laws.Length.Statement .sei := Sys2Proof.Laws.Length.of_checked rfl
theorem Sys2Proof.Laws.Length.tap : Sys2Proof.Laws.Length.Statement .tap := Sys2Proof.Laws.Length.of_checked rfl
theorem Sys2Proof.Laws.Length.tpa : Sys2Proof.Laws.Length.Statement .tpa := Sys2Proof.Laws.Length.of_checked rfl
theorem Sys2Proof.Laws.Length.nop : Sys2Proof.Laws.Length.Statement .nop := Sys2Proof.Laws.Length.of_checked rfl
theorem Sys2Proof.Laws.Length.swi : Sys2Proof.Laws.Length.Statement .swi := Sys2Proof.Laws.Length.of_checked rfl
theorem Sys2Proof.Laws.Length.rti : Sys2Proof.Laws.Length.Statement .rti := Sys2Proof.Laws.Length.of_checked rfl
theorem Sys2Proof.Laws.Length.wai : Sys2Proof.Laws.Length.Statement .wai := Sys2Proof.Laws.Length.of_checked rfl
theorem Sys2Proof.Laws.Length.stop : Sys2Proof.Laws.Length.Statement .stop := Sys2Proof.Laws.Length.of_checked rfl
theorem Sys2Proof.Laws.Length.invalid (page : Page) (op : Byte) : Sys2Proof.Laws.Length.Statement (.invalid page op) := by cases page <;> exact Sys2Proof.Laws.Length.of_checked rfl
theorem Sys2Proof.Laws.Length.prefixByte (p : PrefixByte) : Sys2Proof.Laws.Length.Statement (.prefixByte p) := Sys2Proof.Laws.Length.of_checked rfl

end
end

