-- ==== Sys2Proof/Tests/Slice0.lean ====
section
/-! SUPPORT. Tests, with expected results from the spec: the decoding of every row of spec/opcode_table.json, the Example line of
every instruction's rule, and a witness for every statement with hypotheses. -/

namespace Sys2Proof.Machine

open Sys2Proof

/-! ## Helpers -/

/-- A small state: reset, with PC at 0x0100, as the spec's examples have it. -/
def base : State := { State.reset with pc := 0x0100 }

/-- Memory bytes stored silently. -/
def poke : List (Word × Byte) → State → State
  | [], s => s
  | (a, v) :: rest, s => poke rest (writeSilent a v s)

/-- The state with bytes at PC. -/
def loaded (bs : List Byte) (s : State) : State := writeMemBlock s.pc bs s

/-- Something of the state after one step on bytes at PC. -/
def stepped {α : Type} (mem : List (Word × Byte)) (bs : List Byte) (s : State) (f : State → α) : Option α :=
  match step (loaded bs (poke mem s)) with
  | .next t => some (f t)
  | .fault _ => none
  | .refused _ => none

/-- Each byte sequence decodes to its instruction with nothing left, and is that instruction's encoding. -/
def decodesAll (rows : List (List Byte × Instr)) : Bool :=
  rows.all fun r =>
    (match decode r.1 with
      | .ok (i, rest) => decide (i = r.2) && rest.isEmpty
      | .error _ => false) && decide (encode r.2 = r.1)

/-! ## Well-formedness: ill-formed terms are refused -/

/-- 0x86 is mapped on page 1 (ldaa). -/
theorem test_wf_mapped_is_not_invalid : (Instr.invalid .p1 0x86).wf = false := by decide
/-- A prefix byte is no unmapped opcode of page 1 (30_encoding.md R84). -/
theorem test_wf_prefix_is_not_invalid_on_page1 : (Instr.invalid .p1 0x18).wf = false := by decide
theorem test_wf_mapped_on_page2 : (Instr.invalid .p2 0x08).wf = false := by decide
theorem test_wf_mapped_on_page3 : (Instr.invalid .p3 0x83).wf = false := by decide
theorem test_wf_mapped_on_page4 : (Instr.invalid .p4 0xA3).wf = false := by decide
/-- A prefix byte alone is no instruction (30_encoding.md R84). -/
theorem test_wf_prefix_alone : (Instr.prefixByte .x18).wf = false := by decide
theorem test_wf_good : ([.invalid .p1 0x41, .invalid .p2 0x18, .invalid .p4 0x83, .nop, .brset (.indy 0xFF) 0xFF 0x80] :
    List Instr).all Instr.wf = true := by decide

/-! ## Decoding: every row of the opcode table, with operand bytes 9A 3C E5; the bytes are the table's, written out -/

theorem test_decode_system : decodesAll
    [
    ([0x01], .nop), ([0x06], .tap), ([0x07], .tpa), ([0x0A], .clv), ([0x0B], .sev), ([0x0C], .clc), ([0x0D], .sec),
    ([0x0E], .cli), ([0x0F], .sei), ([0x3B], .rti), ([0x3E], .wai), ([0x3F], .swi), ([0xCF], .stop)] = true := by decide

theorem test_decode_arithmetic_1 : decodesAll
    [
    ([0x02], .idiv), ([0x03], .fdiv), ([0x08], .inx), ([0x09], .dex), ([0x10], .sba), ([0x11], .cba), ([0x19], .daa),
    ([0x1B], .aba), ([0x31], .ins), ([0x34], .des), ([0x3A], .abx), ([0x3D], .mul), ([0x40], .nega), ([0x4A], .deca),
    ([0x4C], .inca), ([0x4D], .tsta), ([0x50], .negb), ([0x5A], .decb), ([0x5C], .incb), ([0x5D], .tstb),
    ([0x60, 0x9A], .neg (.indx 0x9A)), ([0x6A, 0x9A], .dec (.indx 0x9A)), ([0x6C, 0x9A], .inc (.indx 0x9A)),
    ([0x6D, 0x9A], .tst (.indx 0x9A))] = true := by decide

theorem test_decode_arithmetic_2 : decodesAll
    [
    ([0x70, 0x9A, 0x3C], .neg (.ext 0x9A3C)), ([0x7A, 0x9A, 0x3C], .dec (.ext 0x9A3C)),
    ([0x7C, 0x9A, 0x3C], .inc (.ext 0x9A3C)), ([0x7D, 0x9A, 0x3C], .tst (.ext 0x9A3C)), ([0x80, 0x9A], .suba (.imm 0x9A)),
    ([0x81, 0x9A], .cmpa (.imm 0x9A)), ([0x82, 0x9A], .sbca (.imm 0x9A)), ([0x83, 0x9A, 0x3C], .subd (.imm 0x9A3C)),
    ([0x89, 0x9A], .adca (.imm 0x9A)), ([0x8B, 0x9A], .adda (.imm 0x9A)), ([0x8C, 0x9A, 0x3C], .cpx (.imm 0x9A3C)),
    ([0x90, 0x9A], .suba (.mem (.dir 0x9A))), ([0x91, 0x9A], .cmpa (.mem (.dir 0x9A))),
    ([0x92, 0x9A], .sbca (.mem (.dir 0x9A))), ([0x93, 0x9A], .subd (.mem (.dir 0x9A))),
    ([0x99, 0x9A], .adca (.mem (.dir 0x9A))), ([0x9B, 0x9A], .adda (.mem (.dir 0x9A))),
    ([0x9C, 0x9A], .cpx (.mem (.dir 0x9A))), ([0xA0, 0x9A], .suba (.mem (.indx 0x9A))),
    ([0xA1, 0x9A], .cmpa (.mem (.indx 0x9A))), ([0xA2, 0x9A], .sbca (.mem (.indx 0x9A))),
    ([0xA3, 0x9A], .subd (.mem (.indx 0x9A))), ([0xA9, 0x9A], .adca (.mem (.indx 0x9A))),
    ([0xAB, 0x9A], .adda (.mem (.indx 0x9A)))] = true := by decide

theorem test_decode_arithmetic_3 : decodesAll
    [
    ([0xAC, 0x9A], .cpx (.mem (.indx 0x9A))), ([0xB0, 0x9A, 0x3C], .suba (.mem (.ext 0x9A3C))),
    ([0xB1, 0x9A, 0x3C], .cmpa (.mem (.ext 0x9A3C))), ([0xB2, 0x9A, 0x3C], .sbca (.mem (.ext 0x9A3C))),
    ([0xB3, 0x9A, 0x3C], .subd (.mem (.ext 0x9A3C))), ([0xB9, 0x9A, 0x3C], .adca (.mem (.ext 0x9A3C))),
    ([0xBB, 0x9A, 0x3C], .adda (.mem (.ext 0x9A3C))), ([0xBC, 0x9A, 0x3C], .cpx (.mem (.ext 0x9A3C))),
    ([0xC0, 0x9A], .subb (.imm 0x9A)), ([0xC1, 0x9A], .cmpb (.imm 0x9A)), ([0xC2, 0x9A], .sbcb (.imm 0x9A)),
    ([0xC3, 0x9A, 0x3C], .addd (.imm 0x9A3C)), ([0xC9, 0x9A], .adcb (.imm 0x9A)), ([0xCB, 0x9A], .addb (.imm 0x9A)),
    ([0xD0, 0x9A], .subb (.mem (.dir 0x9A))), ([0xD1, 0x9A], .cmpb (.mem (.dir 0x9A))),
    ([0xD2, 0x9A], .sbcb (.mem (.dir 0x9A))), ([0xD3, 0x9A], .addd (.mem (.dir 0x9A))),
    ([0xD9, 0x9A], .adcb (.mem (.dir 0x9A))), ([0xDB, 0x9A], .addb (.mem (.dir 0x9A))),
    ([0xE0, 0x9A], .subb (.mem (.indx 0x9A))), ([0xE1, 0x9A], .cmpb (.mem (.indx 0x9A))),
    ([0xE2, 0x9A], .sbcb (.mem (.indx 0x9A))), ([0xE3, 0x9A], .addd (.mem (.indx 0x9A)))] = true := by decide

theorem test_decode_arithmetic_4 : decodesAll
    [
    ([0xE9, 0x9A], .adcb (.mem (.indx 0x9A))), ([0xEB, 0x9A], .addb (.mem (.indx 0x9A))),
    ([0xF0, 0x9A, 0x3C], .subb (.mem (.ext 0x9A3C))), ([0xF1, 0x9A, 0x3C], .cmpb (.mem (.ext 0x9A3C))),
    ([0xF2, 0x9A, 0x3C], .sbcb (.mem (.ext 0x9A3C))), ([0xF3, 0x9A, 0x3C], .addd (.mem (.ext 0x9A3C))),
    ([0xF9, 0x9A, 0x3C], .adcb (.mem (.ext 0x9A3C))), ([0xFB, 0x9A, 0x3C], .addb (.mem (.ext 0x9A3C))),
    ([0x18, 0x08], .iny), ([0x18, 0x09], .dey), ([0x18, 0x3A], .aby), ([0x18, 0x60, 0x9A], .neg (.indy 0x9A)),
    ([0x18, 0x6A, 0x9A], .dec (.indy 0x9A)), ([0x18, 0x6C, 0x9A], .inc (.indy 0x9A)),
    ([0x18, 0x6D, 0x9A], .tst (.indy 0x9A)), ([0x18, 0x8C, 0x9A, 0x3C], .cpy (.imm 0x9A3C)),
    ([0x18, 0x9C, 0x9A], .cpy (.mem (.dir 0x9A))), ([0x18, 0xA0, 0x9A], .suba (.mem (.indy 0x9A))),
    ([0x18, 0xA1, 0x9A], .cmpa (.mem (.indy 0x9A))), ([0x18, 0xA2, 0x9A], .sbca (.mem (.indy 0x9A))),
    ([0x18, 0xA3, 0x9A], .subd (.mem (.indy 0x9A))), ([0x18, 0xA9, 0x9A], .adca (.mem (.indy 0x9A))),
    ([0x18, 0xAB, 0x9A], .adda (.mem (.indy 0x9A))), ([0x18, 0xAC, 0x9A], .cpy (.mem (.indy 0x9A)))] = true := by decide

theorem test_decode_arithmetic_5 : decodesAll
    [
    ([0x18, 0xBC, 0x9A, 0x3C], .cpy (.mem (.ext 0x9A3C))), ([0x18, 0xE0, 0x9A], .subb (.mem (.indy 0x9A))),
    ([0x18, 0xE1, 0x9A], .cmpb (.mem (.indy 0x9A))), ([0x18, 0xE2, 0x9A], .sbcb (.mem (.indy 0x9A))),
    ([0x18, 0xE3, 0x9A], .addd (.mem (.indy 0x9A))), ([0x18, 0xE9, 0x9A], .adcb (.mem (.indy 0x9A))),
    ([0x18, 0xEB, 0x9A], .addb (.mem (.indy 0x9A))), ([0x1A, 0x83, 0x9A, 0x3C], .cpd (.imm 0x9A3C)),
    ([0x1A, 0x93, 0x9A], .cpd (.mem (.dir 0x9A))), ([0x1A, 0xA3, 0x9A], .cpd (.mem (.indx 0x9A))),
    ([0x1A, 0xAC, 0x9A], .cpy (.mem (.indx 0x9A))), ([0x1A, 0xB3, 0x9A, 0x3C], .cpd (.mem (.ext 0x9A3C))),
    ([0xCD, 0xA3, 0x9A], .cpd (.mem (.indy 0x9A))), ([0xCD, 0xAC, 0x9A], .cpx (.mem (.indy 0x9A)))] = true := by decide

theorem test_decode_logic_shift_1 : decodesAll
    [
    ([0x04], .lsrd), ([0x05], .asld), ([0x43], .coma), ([0x44], .lsra), ([0x46], .rora), ([0x47], .asra), ([0x48], .asla),
    ([0x49], .rola), ([0x53], .comb), ([0x54], .lsrb), ([0x56], .rorb), ([0x57], .asrb), ([0x58], .aslb), ([0x59], .rolb),
    ([0x63, 0x9A], .com (.indx 0x9A)), ([0x64, 0x9A], .lsr (.indx 0x9A)), ([0x66, 0x9A], .ror (.indx 0x9A)),
    ([0x67, 0x9A], .asr (.indx 0x9A)), ([0x68, 0x9A], .asl (.indx 0x9A)), ([0x69, 0x9A], .rol (.indx 0x9A)),
    ([0x73, 0x9A, 0x3C], .com (.ext 0x9A3C)), ([0x74, 0x9A, 0x3C], .lsr (.ext 0x9A3C)),
    ([0x76, 0x9A, 0x3C], .ror (.ext 0x9A3C)), ([0x77, 0x9A, 0x3C], .asr (.ext 0x9A3C))] = true := by decide

theorem test_decode_logic_shift_2 : decodesAll
    [
    ([0x78, 0x9A, 0x3C], .asl (.ext 0x9A3C)), ([0x79, 0x9A, 0x3C], .rol (.ext 0x9A3C)), ([0x84, 0x9A], .anda (.imm 0x9A)),
    ([0x85, 0x9A], .bita (.imm 0x9A)), ([0x88, 0x9A], .eora (.imm 0x9A)), ([0x8A, 0x9A], .oraa (.imm 0x9A)),
    ([0x94, 0x9A], .anda (.mem (.dir 0x9A))), ([0x95, 0x9A], .bita (.mem (.dir 0x9A))),
    ([0x98, 0x9A], .eora (.mem (.dir 0x9A))), ([0x9A, 0x9A], .oraa (.mem (.dir 0x9A))),
    ([0xA4, 0x9A], .anda (.mem (.indx 0x9A))), ([0xA5, 0x9A], .bita (.mem (.indx 0x9A))),
    ([0xA8, 0x9A], .eora (.mem (.indx 0x9A))), ([0xAA, 0x9A], .oraa (.mem (.indx 0x9A))),
    ([0xB4, 0x9A, 0x3C], .anda (.mem (.ext 0x9A3C))), ([0xB5, 0x9A, 0x3C], .bita (.mem (.ext 0x9A3C))),
    ([0xB8, 0x9A, 0x3C], .eora (.mem (.ext 0x9A3C))), ([0xBA, 0x9A, 0x3C], .oraa (.mem (.ext 0x9A3C))),
    ([0xC4, 0x9A], .andb (.imm 0x9A)), ([0xC5, 0x9A], .bitb (.imm 0x9A)), ([0xC8, 0x9A], .eorb (.imm 0x9A)),
    ([0xCA, 0x9A], .orab (.imm 0x9A)), ([0xD4, 0x9A], .andb (.mem (.dir 0x9A))), ([0xD5, 0x9A], .bitb (.mem (.dir 0x9A)))] = true := by decide

theorem test_decode_logic_shift_3 : decodesAll
    [
    ([0xD8, 0x9A], .eorb (.mem (.dir 0x9A))), ([0xDA, 0x9A], .orab (.mem (.dir 0x9A))),
    ([0xE4, 0x9A], .andb (.mem (.indx 0x9A))), ([0xE5, 0x9A], .bitb (.mem (.indx 0x9A))),
    ([0xE8, 0x9A], .eorb (.mem (.indx 0x9A))), ([0xEA, 0x9A], .orab (.mem (.indx 0x9A))),
    ([0xF4, 0x9A, 0x3C], .andb (.mem (.ext 0x9A3C))), ([0xF5, 0x9A, 0x3C], .bitb (.mem (.ext 0x9A3C))),
    ([0xF8, 0x9A, 0x3C], .eorb (.mem (.ext 0x9A3C))), ([0xFA, 0x9A, 0x3C], .orab (.mem (.ext 0x9A3C))),
    ([0x18, 0x63, 0x9A], .com (.indy 0x9A)), ([0x18, 0x64, 0x9A], .lsr (.indy 0x9A)),
    ([0x18, 0x66, 0x9A], .ror (.indy 0x9A)), ([0x18, 0x67, 0x9A], .asr (.indy 0x9A)),
    ([0x18, 0x68, 0x9A], .asl (.indy 0x9A)), ([0x18, 0x69, 0x9A], .rol (.indy 0x9A)),
    ([0x18, 0xA4, 0x9A], .anda (.mem (.indy 0x9A))), ([0x18, 0xA5, 0x9A], .bita (.mem (.indy 0x9A))),
    ([0x18, 0xA8, 0x9A], .eora (.mem (.indy 0x9A))), ([0x18, 0xAA, 0x9A], .oraa (.mem (.indy 0x9A))),
    ([0x18, 0xE4, 0x9A], .andb (.mem (.indy 0x9A))), ([0x18, 0xE5, 0x9A], .bitb (.mem (.indy 0x9A))),
    ([0x18, 0xE8, 0x9A], .eorb (.mem (.indy 0x9A))), ([0x18, 0xEA, 0x9A], .orab (.mem (.indy 0x9A)))] = true := by decide

theorem test_decode_bits : decodesAll
    [
    ([0x12, 0x9A, 0x3C, 0xE5], .brset (.dir 0x9A) 0x3C 0xE5), ([0x13, 0x9A, 0x3C, 0xE5], .brclr (.dir 0x9A) 0x3C 0xE5),
    ([0x14, 0x9A, 0x3C], .bset (.dir 0x9A) 0x3C), ([0x15, 0x9A, 0x3C], .bclr (.dir 0x9A) 0x3C),
    ([0x1C, 0x9A, 0x3C], .bset (.indx 0x9A) 0x3C), ([0x1D, 0x9A, 0x3C], .bclr (.indx 0x9A) 0x3C),
    ([0x1E, 0x9A, 0x3C, 0xE5], .brset (.indx 0x9A) 0x3C 0xE5), ([0x1F, 0x9A, 0x3C, 0xE5], .brclr (.indx 0x9A) 0x3C 0xE5),
    ([0x18, 0x1C, 0x9A, 0x3C], .bset (.indy 0x9A) 0x3C), ([0x18, 0x1D, 0x9A, 0x3C], .bclr (.indy 0x9A) 0x3C),
    ([0x18, 0x1E, 0x9A, 0x3C, 0xE5], .brset (.indy 0x9A) 0x3C 0xE5),
    ([0x18, 0x1F, 0x9A, 0x3C, 0xE5], .brclr (.indy 0x9A) 0x3C 0xE5)] = true := by decide

theorem test_decode_loads_stores_transfers_1 : decodesAll
    [
    ([0x16], .tab), ([0x17], .tba), ([0x30], .tsx), ([0x32], .pula), ([0x33], .pulb), ([0x35], .txs), ([0x36], .psha),
    ([0x37], .pshb), ([0x38], .pulx), ([0x3C], .pshx), ([0x4F], .clra), ([0x5F], .clrb), ([0x6F, 0x9A], .clr (.indx 0x9A)),
    ([0x7F, 0x9A, 0x3C], .clr (.ext 0x9A3C)), ([0x86, 0x9A], .ldaa (.imm 0x9A)), ([0x8E, 0x9A, 0x3C], .lds (.imm 0x9A3C)),
    ([0x8F], .xgdx), ([0x96, 0x9A], .ldaa (.mem (.dir 0x9A))), ([0x97, 0x9A], .staa (.dir 0x9A)),
    ([0x9E, 0x9A], .lds (.mem (.dir 0x9A))), ([0x9F, 0x9A], .sts (.dir 0x9A)), ([0xA6, 0x9A], .ldaa (.mem (.indx 0x9A))),
    ([0xA7, 0x9A], .staa (.indx 0x9A)), ([0xAE, 0x9A], .lds (.mem (.indx 0x9A)))] = true := by decide

theorem test_decode_loads_stores_transfers_2 : decodesAll
    [
    ([0xAF, 0x9A], .sts (.indx 0x9A)), ([0xB6, 0x9A, 0x3C], .ldaa (.mem (.ext 0x9A3C))),
    ([0xB7, 0x9A, 0x3C], .staa (.ext 0x9A3C)), ([0xBE, 0x9A, 0x3C], .lds (.mem (.ext 0x9A3C))),
    ([0xBF, 0x9A, 0x3C], .sts (.ext 0x9A3C)), ([0xC6, 0x9A], .ldab (.imm 0x9A)), ([0xCC, 0x9A, 0x3C], .ldd (.imm 0x9A3C)),
    ([0xCE, 0x9A, 0x3C], .ldx (.imm 0x9A3C)), ([0xD6, 0x9A], .ldab (.mem (.dir 0x9A))), ([0xD7, 0x9A], .stab (.dir 0x9A)),
    ([0xDC, 0x9A], .ldd (.mem (.dir 0x9A))), ([0xDD, 0x9A], .std (.dir 0x9A)), ([0xDE, 0x9A], .ldx (.mem (.dir 0x9A))),
    ([0xDF, 0x9A], .stx (.dir 0x9A)), ([0xE6, 0x9A], .ldab (.mem (.indx 0x9A))), ([0xE7, 0x9A], .stab (.indx 0x9A)),
    ([0xEC, 0x9A], .ldd (.mem (.indx 0x9A))), ([0xED, 0x9A], .std (.indx 0x9A)), ([0xEE, 0x9A], .ldx (.mem (.indx 0x9A))),
    ([0xEF, 0x9A], .stx (.indx 0x9A)), ([0xF6, 0x9A, 0x3C], .ldab (.mem (.ext 0x9A3C))),
    ([0xF7, 0x9A, 0x3C], .stab (.ext 0x9A3C)), ([0xFC, 0x9A, 0x3C], .ldd (.mem (.ext 0x9A3C))),
    ([0xFD, 0x9A, 0x3C], .std (.ext 0x9A3C))] = true := by decide

theorem test_decode_loads_stores_transfers_3 : decodesAll
    [
    ([0xFE, 0x9A, 0x3C], .ldx (.mem (.ext 0x9A3C))), ([0xFF, 0x9A, 0x3C], .stx (.ext 0x9A3C)), ([0x18, 0x30], .tsy),
    ([0x18, 0x35], .tys), ([0x18, 0x38], .puly), ([0x18, 0x3C], .pshy), ([0x18, 0x6F, 0x9A], .clr (.indy 0x9A)),
    ([0x18, 0x8F], .xgdy), ([0x18, 0xA6, 0x9A], .ldaa (.mem (.indy 0x9A))), ([0x18, 0xA7, 0x9A], .staa (.indy 0x9A)),
    ([0x18, 0xAE, 0x9A], .lds (.mem (.indy 0x9A))), ([0x18, 0xAF, 0x9A], .sts (.indy 0x9A)),
    ([0x18, 0xCE, 0x9A, 0x3C], .ldy (.imm 0x9A3C)), ([0x18, 0xDE, 0x9A], .ldy (.mem (.dir 0x9A))),
    ([0x18, 0xDF, 0x9A], .sty (.dir 0x9A)), ([0x18, 0xE6, 0x9A], .ldab (.mem (.indy 0x9A))),
    ([0x18, 0xE7, 0x9A], .stab (.indy 0x9A)), ([0x18, 0xEC, 0x9A], .ldd (.mem (.indy 0x9A))),
    ([0x18, 0xED, 0x9A], .std (.indy 0x9A)), ([0x18, 0xEE, 0x9A], .ldy (.mem (.indy 0x9A))),
    ([0x18, 0xEF, 0x9A], .sty (.indy 0x9A)), ([0x18, 0xFE, 0x9A, 0x3C], .ldy (.mem (.ext 0x9A3C))),
    ([0x18, 0xFF, 0x9A, 0x3C], .sty (.ext 0x9A3C)), ([0x1A, 0xEE, 0x9A], .ldy (.mem (.indx 0x9A)))] = true := by decide

theorem test_decode_loads_stores_transfers_4 : decodesAll
    [
    ([0x1A, 0xEF, 0x9A], .sty (.indx 0x9A)), ([0xCD, 0xEE, 0x9A], .ldx (.mem (.indy 0x9A))),
    ([0xCD, 0xEF, 0x9A], .stx (.indy 0x9A))] = true := by decide

theorem test_decode_control_1 : decodesAll
    [
    ([0x20, 0x9A], .bra 0x9A), ([0x21, 0x9A], .brn 0x9A), ([0x22, 0x9A], .bhi 0x9A), ([0x23, 0x9A], .bls 0x9A),
    ([0x24, 0x9A], .bcc 0x9A), ([0x25, 0x9A], .bcs 0x9A), ([0x26, 0x9A], .bne 0x9A), ([0x27, 0x9A], .beq 0x9A),
    ([0x28, 0x9A], .bvc 0x9A), ([0x29, 0x9A], .bvs 0x9A), ([0x2A, 0x9A], .bpl 0x9A), ([0x2B, 0x9A], .bmi 0x9A),
    ([0x2C, 0x9A], .bge 0x9A), ([0x2D, 0x9A], .blt 0x9A), ([0x2E, 0x9A], .bgt 0x9A), ([0x2F, 0x9A], .ble 0x9A),
    ([0x39], .rts), ([0x6E, 0x9A], .jmp (.indx 0x9A)), ([0x7E, 0x9A, 0x3C], .jmp (.ext 0x9A3C)), ([0x8D, 0x9A], .bsr 0x9A),
    ([0x9D, 0x9A], .jsr (.dir 0x9A)), ([0xAD, 0x9A], .jsr (.indx 0x9A)), ([0xBD, 0x9A, 0x3C], .jsr (.ext 0x9A3C)),
    ([0x18, 0x6E, 0x9A], .jmp (.indy 0x9A))] = true := by decide

theorem test_decode_control_2 : decodesAll
    [
    ([0x18, 0xAD, 0x9A], .jsr (.indy 0x9A))] = true := by decide

/-! ## One step of each instruction: the Example line of its rule (files 40 to 45). The last two values are PC and the
cycles charged. -/

theorem test_clra : stepped [] [0x4F] { base with a := 0x5A, ccr := 0x9B } (fun t => (t.a, t.ccr, t.pc, t.cycles)) =
    some (0x00, 0x94, 0x0101, 2) := by decide
theorem test_clrb : stepped [] [0x5F] { base with b := 0x5A, ccr := 0x9B } (fun t => (t.b, t.ccr, t.pc, t.cycles)) =
    some (0x00, 0x94, 0x0101, 2) := by decide
theorem test_clr : stepped [(0x2005, 0x77)] [0x6F, 0x05]
    { base with x := 0x2000 }
    (fun t => (t.ccr, t.byteAt 0x2005, t.pc, t.cycles)) =
    some (0x94, 0x00, 0x0102, 6) := by decide
theorem test_ldaa : stepped [] [0x86, 0x05] base (fun t => (t.a, t.ccr, t.pc, t.cycles)) =
    some (0x05, 0x90, 0x0102, 2) := by decide
theorem test_ldab : stepped [] [0xC6, 0x80] { base with ccr := 0x91 } (fun t => (t.b, t.ccr, t.pc, t.cycles)) =
    some (0x80, 0x99, 0x0102, 2) := by decide
theorem test_ldd : stepped [] [0xCC, 0x80, 0x01] base (fun t => (t.a, t.b, t.ccr, t.pc, t.cycles)) =
    some (0x80, 0x01, 0x98, 0x0103, 3) := by decide
theorem test_lds : stepped [] [0x8E, 0x00, 0xFF] base (fun t => (t.sp, t.ccr, t.pc, t.cycles)) =
    some (0x00FF, 0x90, 0x0103, 3) := by decide
theorem test_ldx : stepped [(0x0040, 0x12), (0x0041, 0x34)] [0xDE, 0x40] base (fun t => (t.x, t.ccr, t.pc, t.cycles)) =
    some (0x1234, 0x90, 0x0102, 4) := by decide
theorem test_ldy : stepped [(0x3002, 0x00), (0x3003, 0x00)] [0x1A, 0xEE, 0x02]
    { base with x := 0x3000 }
    (fun t => (t.ccr, t.pc, t.cycles)) =
    some (0x94, 0x0103, 6) := by decide
theorem test_staa : stepped [] [0x97, 0x10] { base with a := 0xC3 } (fun t => (t.ccr, t.byteAt 0x0010, t.pc, t.cycles)) =
    some (0x98, 0xC3, 0x0102, 3) := by decide
theorem test_stab : stepped [] [0xD7, 0x10] { base with b := 0xC3 } (fun t => (t.ccr, t.byteAt 0x0010, t.pc, t.cycles)) =
    some (0x98, 0xC3, 0x0102, 3) := by decide
theorem test_std : stepped [] [0xFD, 0x20, 0x00]
    { base with a := 0xBE, b := 0xEF }
    (fun t => (t.ccr, t.byteAt 0x2000, t.byteAt 0x2001, t.pc, t.cycles)) =
    some (0x98, 0xBE, 0xEF, 0x0103, 5) := by decide
theorem test_sts : stepped [] [0x9F, 0x30]
    { base with sp := 0x00FF }
    (fun t => (t.ccr, t.byteAt 0x0030, t.byteAt 0x0031, t.pc, t.cycles)) =
    some (0x90, 0x00, 0xFF, 0x0102, 4) := by decide
theorem test_stx : stepped [] [0xCD, 0xEF, 0x10]
    { base with y := 0x4000 }
    (fun t => (t.ccr, t.byteAt 0x4010, t.byteAt 0x4011, t.pc, t.cycles)) =
    some (0x94, 0x00, 0x00, 0x0103, 6) := by decide
theorem test_sty : stepped [] [0x18, 0xFF, 0xFF, 0xFF]
    { base with y := 0x8001 }
    (fun t => (t.ccr, t.byteAt 0xFFFF, t.byteAt 0x0000, t.pc, t.cycles)) =
    some (0x98, 0x80, 0x01, 0x0104, 6) := by decide
theorem test_psha : stepped [] [0x36]
    { base with a := 0x42, sp := 0x00FF }
    (fun t => (t.sp, t.ccr, t.byteAt 0x00FF, t.pc, t.cycles)) =
    some (0x00FE, 0x90, 0x42, 0x0101, 3) := by decide
theorem test_pshb : stepped [] [0x37]
    { base with b := 0x42, sp := 0x00FF }
    (fun t => (t.sp, t.ccr, t.byteAt 0x00FF, t.pc, t.cycles)) =
    some (0x00FE, 0x90, 0x42, 0x0101, 3) := by decide
theorem test_pshx : stepped [] [0x3C]
    { base with x := 0x1234, sp := 0x00FF }
    (fun t => (t.sp, t.ccr, t.byteAt 0x00FF, t.byteAt 0x00FE, t.pc, t.cycles)) =
    some (0x00FD, 0x90, 0x34, 0x12, 0x0101, 4) := by decide
theorem test_pshy : stepped [] [0x18, 0x3C]
    { base with y := 0x1234, sp := 0x00FF }
    (fun t => (t.sp, t.ccr, t.byteAt 0x00FF, t.byteAt 0x00FE, t.pc, t.cycles)) =
    some (0x00FD, 0x90, 0x34, 0x12, 0x0102, 5) := by decide
theorem test_pula : stepped [(0x00FF, 0x99)] [0x32] { base with sp := 0x00FE } (fun t => (t.a, t.sp, t.ccr, t.pc, t.cycles)) =
    some (0x99, 0x00FF, 0x90, 0x0101, 4) := by decide
theorem test_pulb : stepped [(0x00FF, 0x99)] [0x33] { base with sp := 0x00FE } (fun t => (t.b, t.sp, t.ccr, t.pc, t.cycles)) =
    some (0x99, 0x00FF, 0x90, 0x0101, 4) := by decide
theorem test_pulx : stepped [(0x00FE, 0xAB), (0x00FF, 0xCD)] [0x38]
    { base with sp := 0x00FD }
    (fun t => (t.x, t.sp, t.ccr, t.pc, t.cycles)) =
    some (0xABCD, 0x00FF, 0x90, 0x0101, 5) := by decide
theorem test_puly : stepped [(0x00FE, 0xAB), (0x00FF, 0xCD)] [0x18, 0x38]
    { base with sp := 0x00FD }
    (fun t => (t.y, t.sp, t.ccr, t.pc, t.cycles)) =
    some (0xABCD, 0x00FF, 0x90, 0x0102, 6) := by decide
theorem test_tab : stepped [] [0x16] { base with b := 0x11 } (fun t => (t.b, t.ccr, t.pc, t.cycles)) =
    some (0x00, 0x94, 0x0101, 2) := by decide
theorem test_tba : stepped [] [0x17] { base with b := 0xF0 } (fun t => (t.a, t.ccr, t.pc, t.cycles)) =
    some (0xF0, 0x98, 0x0101, 2) := by decide
theorem test_tsx : stepped [] [0x30] { base with sp := 0xFFFF } (fun t => (t.ccr, t.pc, t.cycles)) =
    some (0x90, 0x0101, 3) := by decide
theorem test_tsy : stepped [] [0x18, 0x30] { base with sp := 0xFFFF } (fun t => (t.ccr, t.pc, t.cycles)) =
    some (0x90, 0x0102, 4) := by decide
theorem test_txs : stepped [] [0x35] base (fun t => (t.sp, t.ccr, t.pc, t.cycles)) =
    some (0xFFFF, 0x90, 0x0101, 3) := by decide
theorem test_tys : stepped [] [0x18, 0x35] base (fun t => (t.sp, t.ccr, t.pc, t.cycles)) =
    some (0xFFFF, 0x90, 0x0102, 4) := by decide
theorem test_xgdx : stepped [] [0x8F]
    { base with x := 0xABCD, a := 0x12, b := 0x34 }
    (fun t => (t.a, t.b, t.x, t.ccr, t.pc, t.cycles)) =
    some (0xAB, 0xCD, 0x1234, 0x90, 0x0101, 3) := by decide
theorem test_xgdy : stepped [] [0x18, 0x8F]
    { base with y := 0xABCD, a := 0x12, b := 0x34 }
    (fun t => (t.a, t.b, t.y, t.ccr, t.pc, t.cycles)) =
    some (0xAB, 0xCD, 0x1234, 0x90, 0x0102, 4) := by decide
theorem test_aba : stepped [] [0x1B] { base with a := 0x7F, b := 0x01, ccr := 0x00 } (fun t => (t.a, t.ccr, t.pc, t.cycles)) =
    some (0x80, 0x2A, 0x0101, 2) := by decide
theorem test_adda : stepped [] [0x8B, 0x08] { base with a := 0x38 } (fun t => (t.a, t.ccr, t.pc, t.cycles)) =
    some (0x40, 0xB0, 0x0102, 2) := by decide
theorem test_adca : stepped [] [0x89, 0x00] { base with a := 0x0F, ccr := 0x91 } (fun t => (t.a, t.ccr, t.pc, t.cycles)) =
    some (0x10, 0xB0, 0x0102, 2) := by decide
theorem test_addb : stepped [] [0xCB, 0x08] { base with b := 0x38 } (fun t => (t.b, t.ccr, t.pc, t.cycles)) =
    some (0x40, 0xB0, 0x0102, 2) := by decide
theorem test_adcb : stepped [] [0xC9, 0x00] { base with b := 0x0F, ccr := 0x91 } (fun t => (t.b, t.ccr, t.pc, t.cycles)) =
    some (0x10, 0xB0, 0x0102, 2) := by decide
theorem test_addd : stepped [] [0xC3, 0x00, 0x01]
    { base with a := 0x7F, b := 0xFF }
    (fun t => (t.a, t.b, t.ccr, t.pc, t.cycles)) =
    some (0x80, 0x00, 0x9A, 0x0103, 4) := by decide
theorem test_sba : stepped [] [0x10] { base with a := 0x10, b := 0x20 } (fun t => (t.a, t.ccr, t.pc, t.cycles)) =
    some (0xF0, 0x99, 0x0101, 2) := by decide
theorem test_suba : stepped [] [0x80, 0x01] { base with a := 0x80 } (fun t => (t.a, t.ccr, t.pc, t.cycles)) =
    some (0x7F, 0x92, 0x0102, 2) := by decide
theorem test_sbca : stepped [] [0x82, 0x00] { base with ccr := 0x91 } (fun t => (t.a, t.ccr, t.pc, t.cycles)) =
    some (0xFF, 0x99, 0x0102, 2) := by decide
theorem test_subb : stepped [] [0xC0, 0x01] { base with b := 0x80 } (fun t => (t.b, t.ccr, t.pc, t.cycles)) =
    some (0x7F, 0x92, 0x0102, 2) := by decide
theorem test_sbcb : stepped [] [0xC2, 0x00] { base with ccr := 0x91 } (fun t => (t.b, t.ccr, t.pc, t.cycles)) =
    some (0xFF, 0x99, 0x0102, 2) := by decide
theorem test_subd : stepped [] [0x83, 0x00, 0x01] { base with a := 0x80 } (fun t => (t.a, t.b, t.ccr, t.pc, t.cycles)) =
    some (0x7F, 0xFF, 0x92, 0x0103, 4) := by decide
theorem test_cba : stepped [] [0x11] { base with a := 0x05, b := 0x05 } (fun t => (t.ccr, t.pc, t.cycles)) =
    some (0x94, 0x0101, 2) := by decide
theorem test_cmpa : stepped [(0x0080, 0x02)] [0x91, 0x80] { base with a := 0x01 } (fun t => (t.ccr, t.pc, t.cycles)) =
    some (0x99, 0x0102, 3) := by decide
theorem test_cmpb : stepped [(0x0080, 0x02)] [0xD1, 0x80] { base with b := 0x01 } (fun t => (t.ccr, t.pc, t.cycles)) =
    some (0x99, 0x0102, 3) := by decide
theorem test_cpd : stepped [] [0x1A, 0x83, 0x10, 0x00] { base with a := 0x10 } (fun t => (t.ccr, t.pc, t.cycles)) =
    some (0x94, 0x0104, 5) := by decide
theorem test_cpx : stepped [] [0x8C, 0x00, 0x01] base (fun t => (t.ccr, t.pc, t.cycles)) =
    some (0x99, 0x0103, 4) := by decide
theorem test_cpy : stepped [] [0x18, 0x8C, 0x7F, 0xFF] { base with y := 0x8000 } (fun t => (t.ccr, t.pc, t.cycles)) =
    some (0x92, 0x0104, 5) := by decide
theorem test_inca : stepped [] [0x4C] { base with a := 0xFF } (fun t => (t.a, t.ccr, t.pc, t.cycles)) =
    some (0x00, 0x94, 0x0101, 2) := by decide
theorem test_incb : stepped [] [0x5C] { base with b := 0xFF } (fun t => (t.b, t.ccr, t.pc, t.cycles)) =
    some (0x00, 0x94, 0x0101, 2) := by decide
theorem test_inc : stepped [(0x1001, 0x7F)] [0x18, 0x6C, 0x01]
    { base with y := 0x1000 }
    (fun t => (t.ccr, t.byteAt 0x1001, t.pc, t.cycles)) =
    some (0x9A, 0x80, 0x0103, 7) := by decide
theorem test_deca : stepped [] [0x4A] { base with a := 0x80 } (fun t => (t.a, t.ccr, t.pc, t.cycles)) =
    some (0x7F, 0x92, 0x0101, 2) := by decide
theorem test_decb : stepped [] [0x5A] { base with b := 0x80 } (fun t => (t.b, t.ccr, t.pc, t.cycles)) =
    some (0x7F, 0x92, 0x0101, 2) := by decide
theorem test_dec : stepped [(0x1234, 0x01)] [0x7A, 0x12, 0x34] base (fun t => (t.ccr, t.byteAt 0x1234, t.pc, t.cycles)) =
    some (0x94, 0x00, 0x0103, 6) := by decide
theorem test_nega : stepped [] [0x40] { base with a := 0x80 } (fun t => (t.ccr, t.pc, t.cycles)) =
    some (0x9B, 0x0101, 2) := by decide
theorem test_negb : stepped [] [0x50] { base with b := 0x80 } (fun t => (t.ccr, t.pc, t.cycles)) =
    some (0x9B, 0x0101, 2) := by decide
theorem test_neg : stepped [(0x0100, 0x01)] [0x60, 0x00]
    { base with x := 0x0100 }
    (fun t => (t.ccr, t.byteAt 0x0100, t.pc, t.cycles)) =
    some (0x99, 0xA0, 0x0102, 6) := by decide
theorem test_tsta : stepped [] [0x4D] { base with ccr := 0x93 } (fun t => (t.ccr, t.pc, t.cycles)) =
    some (0x94, 0x0101, 2) := by decide
theorem test_tstb : stepped [] [0x5D] { base with ccr := 0x93 } (fun t => (t.ccr, t.pc, t.cycles)) =
    some (0x94, 0x0101, 2) := by decide
theorem test_tst : stepped [(0x8000, 0x80)] [0x7D, 0x80, 0x00] base (fun t => (t.ccr, t.pc, t.cycles)) =
    some (0x98, 0x0103, 6) := by decide
theorem test_daa : stepped [] [0x19] { base with a := 0x9A } (fun t => (t.a, t.pc, t.cycles)) =
    some (0x00, 0x0101, 2) := by decide
theorem test_abx : stepped [] [0x3A] { base with b := 0x20, x := 0xFFF0 } (fun t => (t.x, t.ccr, t.pc, t.cycles)) =
    some (0x0010, 0x90, 0x0101, 3) := by decide
theorem test_aby : stepped [] [0x18, 0x3A] { base with b := 0x20, y := 0xFFF0 } (fun t => (t.y, t.ccr, t.pc, t.cycles)) =
    some (0x0010, 0x90, 0x0102, 4) := by decide
theorem test_inx : stepped [] [0x08] { base with x := 0xFFFF } (fun t => (t.x, t.ccr, t.pc, t.cycles)) =
    some (0x0000, 0x94, 0x0101, 3) := by decide
theorem test_iny : stepped [] [0x18, 0x08] { base with y := 0xFFFF } (fun t => (t.y, t.ccr, t.pc, t.cycles)) =
    some (0x0000, 0x94, 0x0102, 4) := by decide
theorem test_dex : stepped [] [0x09] { base with x := 0x0001 } (fun t => (t.x, t.ccr, t.pc, t.cycles)) =
    some (0x0000, 0x94, 0x0101, 3) := by decide
theorem test_dey : stepped [] [0x18, 0x09] { base with y := 0x0001 } (fun t => (t.y, t.ccr, t.pc, t.cycles)) =
    some (0x0000, 0x94, 0x0102, 4) := by decide
theorem test_ins : stepped [] [0x31] { base with sp := 0xFFFF } (fun t => (t.sp, t.ccr, t.pc, t.cycles)) =
    some (0x0000, 0x90, 0x0101, 3) := by decide
theorem test_des : stepped [] [0x34] base (fun t => (t.sp, t.ccr, t.pc, t.cycles)) =
    some (0xFFFF, 0x90, 0x0101, 3) := by decide
theorem test_mul : stepped [] [0x3D] { base with a := 0x0C, b := 0x0D } (fun t => (t.a, t.b, t.ccr, t.pc, t.cycles)) =
    some (0x00, 0x9C, 0x91, 0x0101, 10) := by decide
theorem test_idiv : stepped [] [0x02] { base with x := 0x0002, b := 0x07 } (fun t => (t.b, t.x, t.ccr, t.pc, t.cycles)) =
    some (0x01, 0x0003, 0x90, 0x0101, 41) := by decide
theorem test_fdiv : stepped [] [0x03] { base with x := 0x8000, a := 0x20 } (fun t => (t.a, t.x, t.ccr, t.pc, t.cycles)) =
    some (0x00, 0x4000, 0x90, 0x0101, 41) := by decide
theorem test_anda : stepped [] [0x84, 0x3C] { base with a := 0xF0 } (fun t => (t.a, t.ccr, t.pc, t.cycles)) =
    some (0x30, 0x90, 0x0102, 2) := by decide
theorem test_andb : stepped [] [0xC4, 0x3C] { base with b := 0xF0 } (fun t => (t.b, t.ccr, t.pc, t.cycles)) =
    some (0x30, 0x90, 0x0102, 2) := by decide
theorem test_eora : stepped [] [0x88, 0x0F] { base with a := 0xFF } (fun t => (t.a, t.ccr, t.pc, t.cycles)) =
    some (0xF0, 0x98, 0x0102, 2) := by decide
theorem test_eorb : stepped [] [0xC8, 0x0F] { base with b := 0xFF } (fun t => (t.b, t.ccr, t.pc, t.cycles)) =
    some (0xF0, 0x98, 0x0102, 2) := by decide
theorem test_oraa : stepped [] [0x8A, 0x00] base (fun t => (t.ccr, t.pc, t.cycles)) =
    some (0x94, 0x0102, 2) := by decide
theorem test_orab : stepped [] [0xCA, 0x00] base (fun t => (t.ccr, t.pc, t.cycles)) =
    some (0x94, 0x0102, 2) := by decide
theorem test_bita : stepped [] [0x85, 0x80] { base with a := 0x81 } (fun t => (t.ccr, t.pc, t.cycles)) =
    some (0x98, 0x0102, 2) := by decide
theorem test_bitb : stepped [] [0xC5, 0x80] { base with b := 0x81 } (fun t => (t.ccr, t.pc, t.cycles)) =
    some (0x98, 0x0102, 2) := by decide
theorem test_coma : stepped [] [0x43] { base with a := 0xFF } (fun t => (t.a, t.ccr, t.pc, t.cycles)) =
    some (0x00, 0x95, 0x0101, 2) := by decide
theorem test_comb : stepped [] [0x53] { base with b := 0xFF } (fun t => (t.b, t.ccr, t.pc, t.cycles)) =
    some (0x00, 0x95, 0x0101, 2) := by decide
theorem test_com : stepped [(0x0200, 0x55)] [0x73, 0x02, 0x00] base (fun t => (t.ccr, t.byteAt 0x0200, t.pc, t.cycles)) =
    some (0x99, 0xAA, 0x0103, 6) := by decide
theorem test_asla : stepped [] [0x48] { base with a := 0xC0 } (fun t => (t.a, t.ccr, t.pc, t.cycles)) =
    some (0x80, 0x99, 0x0101, 2) := by decide
theorem test_aslb : stepped [] [0x58] { base with b := 0xC0 } (fun t => (t.b, t.ccr, t.pc, t.cycles)) =
    some (0x80, 0x99, 0x0101, 2) := by decide
theorem test_asl : stepped [(0x0011, 0xC0)] [0x68, 0x01]
    { base with x := 0x0010 }
    (fun t => (t.ccr, t.byteAt 0x0011, t.pc, t.cycles)) =
    some (0x99, 0x80, 0x0102, 6) := by decide
theorem test_asra : stepped [] [0x47] { base with a := 0x81 } (fun t => (t.a, t.ccr, t.pc, t.cycles)) =
    some (0xC0, 0x99, 0x0101, 2) := by decide
theorem test_asrb : stepped [] [0x57] { base with b := 0x81 } (fun t => (t.b, t.ccr, t.pc, t.cycles)) =
    some (0xC0, 0x99, 0x0101, 2) := by decide
theorem test_asr : stepped [(0x0011, 0x81)] [0x67, 0x01]
    { base with x := 0x0010 }
    (fun t => (t.ccr, t.byteAt 0x0011, t.pc, t.cycles)) =
    some (0x99, 0xC0, 0x0102, 6) := by decide
theorem test_lsra : stepped [] [0x44] { base with a := 0x01 } (fun t => (t.a, t.ccr, t.pc, t.cycles)) =
    some (0x00, 0x97, 0x0101, 2) := by decide
theorem test_lsrb : stepped [] [0x54] { base with b := 0x01 } (fun t => (t.b, t.ccr, t.pc, t.cycles)) =
    some (0x00, 0x97, 0x0101, 2) := by decide
theorem test_lsr : stepped [(0x0011, 0x01)] [0x64, 0x01]
    { base with x := 0x0010 }
    (fun t => (t.ccr, t.byteAt 0x0011, t.pc, t.cycles)) =
    some (0x97, 0x00, 0x0102, 6) := by decide
theorem test_rola : stepped [] [0x49] { base with a := 0x80, ccr := 0x91 } (fun t => (t.a, t.ccr, t.pc, t.cycles)) =
    some (0x01, 0x93, 0x0101, 2) := by decide
theorem test_rolb : stepped [] [0x59] { base with b := 0x80, ccr := 0x91 } (fun t => (t.b, t.ccr, t.pc, t.cycles)) =
    some (0x01, 0x93, 0x0101, 2) := by decide
theorem test_rol : stepped [(0x0011, 0x80)] [0x69, 0x01]
    { base with x := 0x0010 }
    (fun t => (t.ccr, t.byteAt 0x0011, t.pc, t.cycles)) =
    some (0x97, 0x00, 0x0102, 6) := by decide
theorem test_rora : stepped [] [0x46] { base with a := 0x01, ccr := 0x91 } (fun t => (t.a, t.ccr, t.pc, t.cycles)) =
    some (0x80, 0x99, 0x0101, 2) := by decide
theorem test_rorb : stepped [] [0x56] { base with b := 0x01, ccr := 0x91 } (fun t => (t.b, t.ccr, t.pc, t.cycles)) =
    some (0x80, 0x99, 0x0101, 2) := by decide
theorem test_ror : stepped [(0x0011, 0x01)] [0x66, 0x01]
    { base with x := 0x0010 }
    (fun t => (t.ccr, t.byteAt 0x0011, t.pc, t.cycles)) =
    some (0x97, 0x00, 0x0102, 6) := by decide
theorem test_asld : stepped [] [0x05] { base with a := 0x40, b := 0x80 } (fun t => (t.a, t.b, t.ccr, t.pc, t.cycles)) =
    some (0x81, 0x00, 0x9A, 0x0101, 3) := by decide
theorem test_lsrd : stepped [] [0x04] { base with a := 0x01, b := 0x01 } (fun t => (t.a, t.b, t.ccr, t.pc, t.cycles)) =
    some (0x00, 0x80, 0x93, 0x0101, 3) := by decide
theorem test_bset : stepped [(0x0010, 0xF0)] [0x14, 0x10, 0x0F] base (fun t => (t.ccr, t.byteAt 0x0010, t.pc, t.cycles)) =
    some (0x98, 0xFF, 0x0103, 6) := by decide
theorem test_bclr : stepped [(0x1003, 0xFF)] [0x1D, 0x03, 0x81]
    { base with x := 0x1000 }
    (fun t => (t.ccr, t.byteAt 0x1003, t.pc, t.cycles)) =
    some (0x90, 0x7E, 0x0103, 7) := by decide
theorem test_brset : stepped [(0x0040, 0xC3)] [0x12, 0x40, 0x03, 0x10] base (fun t => (t.ccr, t.pc, t.cycles)) =
    some (0x90, 0x0114, 6) := by decide
theorem test_brclr : stepped [(0x2001, 0x0F)] [0x18, 0x1F, 0x01, 0xF0, 0xFB]
    { base with y := 0x2000 }
    (fun t => (t.ccr, t.pc, t.cycles)) =
    some (0x94, 0x0100, 8) := by decide
theorem test_bra : stepped [] [0x20, 0xFE] { base with pc := 0x1000 } (fun t => (t.ccr, t.cycles)) =
    some (0x90, 3) := by decide
theorem test_brn : stepped [] [0x21, 0x10] base (fun t => (t.ccr, t.pc, t.cycles)) =
    some (0x90, 0x0102, 3) := by decide
theorem test_bhi : stepped [] [0x22, 0x10] base (fun t => (t.ccr, t.pc, t.cycles)) =
    some (0x90, 0x0112, 3) := by decide
theorem test_bls : stepped [] [0x23, 0xF0] { base with ccr := 0x94 } (fun t => (t.ccr, t.pc, t.cycles)) =
    some (0x94, 0x00F2, 3) := by decide
theorem test_bcc : stepped [] [0x24, 0x10] { base with ccr := 0x91 } (fun t => (t.ccr, t.pc, t.cycles)) =
    some (0x91, 0x0102, 3) := by decide
theorem test_bcs : stepped [] [0x25, 0x80] { base with ccr := 0x91 } (fun t => (t.ccr, t.pc, t.cycles)) =
    some (0x91, 0x0082, 3) := by decide
theorem test_bne : stepped [] [0x26, 0x7F] base (fun t => (t.ccr, t.pc, t.cycles)) =
    some (0x90, 0x0181, 3) := by decide
theorem test_beq : stepped [] [0x27, 0x02] { base with ccr := 0x94 } (fun t => (t.ccr, t.pc, t.cycles)) =
    some (0x94, 0x0104, 3) := by decide
theorem test_bvc : stepped [] [0x28, 0x02] { base with ccr := 0x92 } (fun t => (t.ccr, t.pc, t.cycles)) =
    some (0x92, 0x0102, 3) := by decide
theorem test_bvs : stepped [] [0x29, 0x02] { base with ccr := 0x92 } (fun t => (t.ccr, t.pc, t.cycles)) =
    some (0x92, 0x0104, 3) := by decide
theorem test_bpl : stepped [] [0x2A, 0x02] { base with ccr := 0x98 } (fun t => (t.ccr, t.pc, t.cycles)) =
    some (0x98, 0x0102, 3) := by decide
theorem test_bmi : stepped [] [0x2B, 0x02] { base with ccr := 0x98 } (fun t => (t.ccr, t.pc, t.cycles)) =
    some (0x98, 0x0104, 3) := by decide
theorem test_bge : stepped [] [0x2C, 0x02] { base with ccr := 0x9A } (fun t => (t.ccr, t.pc, t.cycles)) =
    some (0x9A, 0x0104, 3) := by decide
theorem test_blt : stepped [] [0x2D, 0x02] { base with ccr := 0x98 } (fun t => (t.ccr, t.pc, t.cycles)) =
    some (0x98, 0x0104, 3) := by decide
theorem test_bgt : stepped [] [0x2E, 0x02] { base with ccr := 0x94 } (fun t => (t.ccr, t.pc, t.cycles)) =
    some (0x94, 0x0102, 3) := by decide
theorem test_ble : stepped [] [0x2F, 0x02] { base with ccr := 0x92 } (fun t => (t.ccr, t.pc, t.cycles)) =
    some (0x92, 0x0104, 3) := by decide
theorem test_bsr : stepped [] [0x8D, 0x10]
    { base with sp := 0x00FF }
    (fun t => (t.sp, t.ccr, t.byteAt 0x00FF, t.byteAt 0x00FE, t.pc, t.cycles)) =
    some (0x00FD, 0x90, 0x02, 0x01, 0x0112, 6) := by decide
theorem test_jmp : stepped [] [0x6E, 0x00] { base with x := 0x1234 } (fun t => (t.ccr, t.pc, t.cycles)) =
    some (0x90, 0x1234, 3) := by decide
theorem test_jsr : stepped [] [0xBD, 0x80, 0x00]
    { base with sp := 0x01FF }
    (fun t => (t.sp, t.ccr, t.byteAt 0x01FF, t.byteAt 0x01FE, t.pc, t.cycles)) =
    some (0x01FD, 0x90, 0x03, 0x01, 0x8000, 6) := by decide
theorem test_rts : stepped [(0x00FE, 0x01), (0x00FF, 0x23)] [0x39]
    { base with sp := 0x00FD }
    (fun t => (t.sp, t.ccr, t.pc, t.cycles)) =
    some (0x00FF, 0x90, 0x0123, 5) := by decide
theorem test_clc : stepped [] [0x0C] { base with ccr := 0x9F } (fun t => (t.ccr, t.pc, t.cycles)) =
    some (0x9E, 0x0101, 2) := by decide
theorem test_sec : stepped [] [0x0D] base (fun t => (t.ccr, t.pc, t.cycles)) =
    some (0x91, 0x0101, 2) := by decide
theorem test_clv : stepped [] [0x0A] { base with ccr := 0x92 } (fun t => (t.ccr, t.pc, t.cycles)) =
    some (0x90, 0x0101, 2) := by decide
theorem test_sev : stepped [] [0x0B] base (fun t => (t.ccr, t.pc, t.cycles)) =
    some (0x92, 0x0101, 2) := by decide
theorem test_cli : stepped [] [0x0E] base (fun t => (t.ccr, t.pc, t.cycles)) =
    some (0x80, 0x0101, 2) := by decide
theorem test_sei : stepped [] [0x0F] { base with ccr := 0x80 } (fun t => (t.ccr, t.pc, t.cycles)) =
    some (0x90, 0x0101, 2) := by decide
theorem test_tap : stepped [] [0x06] { base with a := 0xFF } (fun t => (t.ccr, t.pc, t.cycles)) =
    some (0xBF, 0x0101, 2) := by decide
theorem test_tpa : stepped [] [0x07] { base with ccr := 0xD5 } (fun t => (t.a, t.ccr, t.pc, t.cycles)) =
    some (0xD5, 0xD5, 0x0101, 2) := by decide
theorem test_nop : stepped [] [0x01] base (fun t => (t.ccr, t.pc, t.cycles)) =
    some (0x90, 0x0101, 2) := by decide
theorem test_swi : stepped [(0xFFF6, 0x40), (0xFFF7, 0x00)] [0x3F]
    { base with a := 0x0A, b := 0x0B, x := 0x1111, y := 0x2222, sp := 0x00FF }
    (fun t => (t.sp, t.ccr, t.byteAt 0x00FF, t.byteAt 0x00F7, t.pc, t.cycles)) =
    some (0x00F6, 0x90, 0x01, 0x90, 0x4000, 14) := by decide
theorem test_rti : stepped [(0x00F7, 0xC4), (0x00F8, 0x0B), (0x00F9, 0x0A), (0x00FA, 0x11), (0x00FB, 0x11), (0x00FC, 0x22), (0x00FD, 0x22), (0x00FE, 0x01), (0x00FF, 0x01)] [0x3B]
    { base with sp := 0x00F6 }
    (fun t => (t.a, t.b, t.x, t.y, t.sp, t.ccr, t.pc, t.cycles)) =
    some (0x0A, 0x0B, 0x1111, 0x2222, 0x00FF, 0x84, 0x0101, 12) := by decide
theorem test_wai : stepped [] [0x3E]
    { base with sp := 0x00FF }
    (fun t => (t.sp, t.status, t.byteAt 0x00FF, t.byteAt 0x00F7, t.pc, t.cycles)) =
    some (0x00F6, .waiting, 0x01, 0x90, 0x0101, 14) := by decide
theorem test_stop : stepped [] [0xCF] base (fun t => (t.ccr, t.pc, t.cycles)) =
    some (0x90, 0x0101, 2) := by decide

/-- The unmapped rows of the table and a prefix in second position (30_encoding.md R85, R87): no operand byte is consumed. -/
theorem test_decode_invalid : decodesAll
    [([0x00], .invalid .p1 0x00), ([0x41], .invalid .p1 0x41), ([0xC7], .invalid .p1 0xC7), ([0x18, 0x18], .invalid .p2 0x18),
    ([0x1A, 0x00], .invalid .p3 0x00), ([0xCD, 0x08], .invalid .p4 0x08)] = true := by decide

theorem test_decode_truncated : decode [0x86] = .error .truncated ∧ decode [] = .error .truncated := by decide

/-- Table words: a page-1 opcode, and a prefixed row, whose `match` has the prefix in bits 15..8 (log entry 13). -/
theorem test_decodeTableWord : decodeTableWord 8 0x4F = some .clra ∧ decodeTableWord 16 0x1808 = some .iny := by decide

/-! ## More of the spec's test vectors and examples (95_test_vectors.md) -/

/-- A conditional branch not taken, T-style: beq with Z = 0 goes on (44 R210). -/
theorem test_beq_not_taken : stepped [] [0x27, 0x10] base (fun t => t.pc) = some 0x0102 := by decide
/-- T21: psha at SP = 0 wraps. -/
theorem test_psha_wraps : stepped [] [0x36] { base with a := 0x5A } (fun t => (t.sp, t.byteAt 0x0000)) =
    some (0xFFFF, 0x5A) := by decide
/-- T31: 0xFF + 1. -/
theorem test_adda_carry : stepped [] [0x8B, 0x01] { base with a := 0xFF } (fun t => (t.a, t.ccr)) = some (0x00, 0xB5) := by decide
/-- T41: 0 - 0x80. -/
theorem test_subb_overflow : stepped [] [0xC0, 0x80] base (fun t => (t.b, t.ccr)) = some (0x80, 0x9B) := by decide
/-- T61: daa after 0x19 + 0x28; V is free and not tested. -/
theorem test_daa_half_carry : stepped [] [0x19] { base with a := 0x41, ccr := 0xB0 } (fun t => (t.a, t.pc)) =
    some (0x47, 0x0101) := by decide
/-- T70: idiv by zero. -/
theorem test_idiv_by_zero : stepped [] [0x02] { base with a := 0x12, b := 0x34, ccr := 0x92 }
    (fun t => (t.x, t.d, t.ccr)) = some (0x0000, 0x1234, 0x97) := by decide
/-- T75: fdiv overflow goes on; X, D and Z are free and not tested (V and C: FractionalDivide). -/
theorem test_fdiv_overflow : stepped [] [0x03] { base with a := 0x10, x := 0x1000 }
    (fun t => (t.sp, t.pc, t.cycles)) = some (0x0000, 0x0101, 41) := by decide
/-- T79: dex of 0 clears Z (log entry 17). -/
theorem test_dex_wraps : stepped [] [0x09] { base with ccr := 0x94 } (fun t => (t.x, t.ccr)) = some (0xFFFF, 0x90) := by decide
/-- T161: jsr 0x10,X leaves the address 2 bytes later (log entry 19). -/
theorem test_jsr_indexed : stepped [] [0xAD, 0x10] { base with x := 0x2000, sp := 0x00FF }
    (fun t => (t.byteAt 0x00FE, t.byteAt 0x00FF, t.pc)) = some (0x01, 0x02, 0x2010) := by decide
/-- T173, T174: tap cannot set X, and keeps it when it is set. -/
theorem test_tap_x : stepped [] [0x06] { base with a := 0x40, ccr := 0x00 } (fun t => t.ccr) = some 0x00 ∧
    stepped [] [0x06] { base with a := 0x40, ccr := 0x40 } (fun t => t.ccr) = some 0x40 := by decide
/-- T181: a waiting core idles. -/
theorem test_idle : stepped [] [0x3E] { base with sp := 0x0200, status := .waiting }
    (fun t => (t.sp, t.pc, t.cycles, t.status)) = some (0x0200, 0x0100, 1, .waiting) := by decide
/-- T183: stop with S = 0. -/
theorem test_stop_s0 : stepped [] [0xCF] { base with ccr := 0x10 } (fun t => (t.pc, t.status)) = some (0x0101, .stopped) := by
  decide
/-- The examples of 30_encoding.md R87: the diagnostic of `41` on page 1 and of `18 00`. -/
theorem test_invalid_diagnostic : stepped [] [0x41] { base with pc := 0x0200 } (fun t => (t.pc, t.bus.events.getLast?)) =
      some (0x0201, some (.invalidOpcode .p1 0x41 0x0200 0x0200)) ∧
    stepped [] [0x18, 0x00] { base with pc := 0x0200 } (fun t => (t.pc, t.bus.events.getLast?)) =
      some (0x0202, some (.invalidOpcode .p2 0x00 0x0201 0x0200)) := by decide
/-- The example of 60_exceptions.md R255: `96 10` at 0x0100 with a read breakpoint on 0x0010 halts at 0x0100, PC = 0x0102. -/
theorem test_read_breakpoint : stepped [] [0x96, 0x10] (addReadBreak 0x0010 base) (fun t => ((checkAfterStep t).1, t.pc)) =
    some (some 0x0100, 0x0102) := by decide
/-- An execute breakpoint halts before the instruction at its address runs (60_exceptions.md R254). -/
theorem test_exec_breakpoint : stepped [] [0x01] (addExecBreak 0x0101 base) (fun t => (checkAfterStep t).1) =
    some (some 0x0101) := by decide
/-- Reset from the vector (70_reset_and_hazards.md R259). -/
theorem test_reset_vector : (hostReset .vector ⟨1, 2, 3, 4, 5, 6, 7⟩ (poke [(0xFFFE, 0xC0), (0xFFFF, 0x01)] base)).pc = 0xC001 := by
  decide
/-- A name differing in case only is a duplicate (70_reset_and_hazards.md R266). -/
theorem test_display_duplicate : addObserver ⟨"LCD", 0⟩ [⟨"lcd", 3⟩] = (false, [⟨"lcd", 3⟩]) := by
  decide +kernel
/-- W14: 66,667 cycles a slice at the defaults. -/
theorem test_slice_budget : sliceBudget defaultClockRate defaultRefreshRate = 66667 := by decide
/-- Two-cycle nops with a budget of 3: the second overshoots (70_reset_and_hazards.md R267). -/
theorem test_slice_overshoots : (match runSlice 9 3 (loaded [0x01, 0x01, 0x01] base) with
    | .next (e, t) => some (e, t.pc, t.cycles)
    | _ => none) = some (.budget, 0x0102, 4) := by decide
/-- An execute breakpoint ends the slice and halts the loop (60_exceptions.md R254, R258; log entry 15); the display is called. -/
theorem test_turn_halts : (match (Pacer.mk 99 3 9 [⟨"lcd", 0⟩] none (addExecBreak 0x0101 (loaded [0x01, 0x01] base))).turn true with
    | .next p => some (p.halt, p.displays.map Display.updates, p.core.pc)
    | _ => none) = some (some 0x0101, [1], 0x0101) := by decide
/-- A clear run flag stops at the slice's boundary; set again, the next slice runs. -/
theorem test_run_flag : (match (Pacer.mk 6 3 9 [⟨"lcd", 0⟩] none (loaded [0x01, 0x01, 0x01] base)).run [true, false, true] with
    | .next p => some (p.displays.map Display.updates, p.core.pc)
    | _ => none) = some ([2], 0x0102) := by decide

/-- `withFetchWord` places and runs an instruction right after reset. -/
theorem test_withFetchWord : (match step (State.reset.withFetchWord 8 0x4C) with
    | .next t => some (t.a, t.pc)
    | _ => none) = some (0x01, 0x0001) := by decide

/-! ## Witnesses: a state and operands that meet a statement's hypotheses -/

theorem witness_DecodeEncodeRoundTrip :
    (Instr.brclr (.indy 0xFF) 0xFF 0x80).wf = true ∧ (Instr.invalid .p4 0x00).wf = true := by decide

theorem witness_DecodeConsumesExactlyTheEncoding :
    decode [0x18, 0x1F, 0xFF, 0xFF, 0x80, 0x00] = .ok (.brclr (.indy 0xFF) 0xFF 0x80, [0x00]) := by decide

theorem witness_UnmappedOpcodesDecode :
    unmapped .p1 0x00 = true ∧ unmapped .p1 0xC7 = true ∧ unmapped .p2 0xCD = true ∧ unmapped .p3 0xFF = true ∧
      unmapped .p4 0x00 = true := by decide

theorem witness_StepRunsDecodedInstruction :
    (loaded [0x18, 0xA6, 0x05] { base with pc := 0xFFFE }).status = .running ∧ (Instr.ldaa (.mem (.indy 0x05))).wf = true ∧
      ∀ (n : Nat) (h : n < (encode (.ldaa (.mem (.indy 0x05)))).length),
        (loaded [0x18, 0xA6, 0x05] { base with pc := 0xFFFE }).byteAt (0xFFFE + BitVec.ofNat 16 n) =
          (encode (.ldaa (.mem (.indy 0x05))))[n] := by decide

theorem witness_IdleStep :
    ({ base with status := .waiting } : State).status ≠ .running ∧ ({ base with status := .stopped } : State).status ≠ .running := by
  decide

/-- For StepRecordsAddressAndCharge, StepTransactions, StepKeepsInvariant, StepKeepsHostConfiguration and
ObserversDoNotAffectTheCore: a running state in canonical form whose step stores a byte. -/
theorem witness_step_next :
    (loaded [0x97, 0x10] { base with a := 0x7F }).status = .running ∧ (loaded [0x97, 0x10] { base with a := 0x7F }).mem.wf = true ∧
      ∃ t, step (loaded [0x97, 0x10] { base with a := 0x7F }) = .next t ∧ t.byteAt 0x0010 = 0x7F := by
  exact ⟨by decide, by decide, _, rfl, by decide⟩

/-- Each case of StatusTransitions: wai, stop with S = 0, another instruction, a core that does not run. -/
theorem witness_StatusTransitions :
    fetchInstr (loaded [0x3E] base) = .wai ∧
      (fetchInstr (loaded [0xCF] { base with ccr := 0x10 }) = .stop ∧ (loaded [0xCF] { base with ccr := 0x10 }).flag .s = false) ∧
      (fetchInstr (loaded [0xCF] base) = .stop ∧ (loaded [0xCF] base).flag .s = true) ∧
      stepped [] [0x3E] base (fun t => t.status) = some .waiting ∧
      stepped [] [0x3E] { base with status := .stopped } (fun t => t.status) = some .stopped := by decide

/-- X clear before a step; and a step that changes X. -/
theorem witness_XIsNeverSet :
    (base.xClear ∧ ∃ t, step (loaded [0x06] base) = .next t) ∧
      ∃ t, step (loaded [0x06] { base with ccr := 0x40 }) = .next t ∧
        t.flag .x ≠ (loaded [0x06] { base with ccr := 0x40 }).flag .x := by
  exact ⟨⟨by unfold State.xClear; decide, _, rfl⟩, _, rfl, by decide⟩

theorem witness_StatusBitWriters : ∃ t, exec (.adda (.imm 0x0F)) { base with a := 0x01 } = .next t ∧ t.flag .h ≠ base.flag .h := by
  exact ⟨_, rfl, by decide⟩

/-- The three cases of CheckAfterStep. -/
theorem witness_CheckAfterStep :
    ({ base with bus := { base.bus with pending := some 0x0100, execBreaks := [0x0100] } } : State).bus.pending = some 0x0100 ∧
      ((addExecBreak 0x0100 base).bus.pending = none ∧ base.pc ∈ (addExecBreak 0x0100 base).bus.execBreaks) ∧
      (base.bus.pending = none ∧ base.pc ∉ base.bus.execBreaks) := by decide

theorem witness_ReadBreakpointHaltsAtTheInstruction :
    (loaded [0x96, 0x10] base).status = .running ∧ (loaded [0x96, 0x10] base).bus.pending = none ∧
      ea (.dir 0x10) (loaded [0x96, 0x10] base) ∉ (loaded [0x96, 0x10] base).bus.readBreaks ∧
      fetchInstr (loaded [0x96, 0x10] base) = .ldaa (.mem (.dir 0x10)) ∧
      fetchInstr (loaded [0xF6, 0xFF, 0xFF] base) = .ldab (.mem (.ext 0xFFFF)) ∧
      ∃ t, step (addReadBreak (ea (.dir 0x10) (loaded [0x96, 0x10] base)) (loaded [0x96, 0x10] base)) = .next t ∧
        t.pc ∉ t.bus.execBreaks := by
  exact ⟨by decide, by decide, by decide, by decide, by decide, _, rfl, by decide⟩

/-- A block that wraps past 0xFFFF: its last byte is overwritten by none, and 0x0001 is outside it. -/
theorem witness_HostLoading :
    (∀ k, 1 < k → k < 2 → (0xFFFF : Word) + BitVec.ofNat 16 k ≠ 0xFFFF + BitVec.ofNat 16 1) ∧
      (∀ k, k < 2 → (0x0001 : Word) ≠ 0xFFFF + BitVec.ofNat 16 k) ∧
      (writeMemBlock 0xFFFF [0xAA, 0xBB] base).byteAt 0x0000 = 0xBB := by
  exact ⟨fun k h h' => by omega, by decide, by decide⟩

theorem witness_DecimalAddition :
    (bcd 99 = 0x99 ∧ bcd 0 = 0x00 ∧ bcd 10 = 0x10) ∧ ({ base with a := 0x99, b := 0x99 } : State).a = bcd 99 ∧
      ({ base with a := 0x99, b := 0x99 } : State).b = bcd 99 := by decide

theorem witness_MultiplyAndIntegerDivide : ({ base with x := 0xFFFF } : State).x ≠ 0#16 ∧ base.x = 0#16 := by decide

/-- The three cases of fdiv at their boundaries: D one below X, X zero, D equal to X. -/
theorem witness_FractionalDivide :
    (({ base with x := 0x0001 } : State).d.toNat < ({ base with x := 0x0001 } : State).x.toNat) ∧ base.x = 0#16 ∧
      (({ base with b := 0x01, x := 0x0001 } : State).x ≠ 0#16 ∧
        ({ base with b := 0x01, x := 0x0001 } : State).x.toNat ≤ ({ base with b := 0x01, x := 0x0001 } : State).d.toNat) := by
  decide

theorem witness_CompareThenBranch : ∃ t, exec (.cmpa (.imm 0x7F)) { base with a := 0x80 } = .next t ∧ t.flag .v = true := by
  exact ⟨_, rfl, by decide⟩

theorem witness_ReturnWaitAndStop : ({ base with ccr := 0x10 } : State).flag .s = false ∧ base.flag .s = true := by decide

/-- Each end of a slice: the budget, a halt, the bound; and a loop that is halted, and one that is not. -/
theorem witness_PacingRunsPolledSlices :
    (match runSlice 1 2 (loaded [0x01] base) with | .next r => r.1 | _ => .stepBound) = .budget ∧
      (match runSlice 1 2 (addExecBreak 0x0101 (loaded [0x01] base)) with | .next r => r.1 | _ => .stepBound) = .halted 0x0101 ∧
      (match runSlice 1 3 (loaded [0x01] base) with | .next r => r.1 | _ => .budget) = .stepBound ∧
      (Pacer.mk 6 3 9 [] (some 0x0100) base).halt ≠ none ∧ (Pacer.mk 6 3 9 [] (some 0x0100) base).resume.halt = none := by decide

/-- An unmapped byte, and a prefix followed by a byte its page lacks, with the second at the end of the address space. -/
theorem witness_UnmappedOpcodeIsANoOp :
    (base.status = .running ∧ unmapped .p1 ((loaded [0x41] base).byteAt 0x0100) = true) ∧
      (pageOfPrefix ((loaded [0xCD, 0xCD] { base with pc := 0xFFFF }).byteAt 0xFFFF) = some .p4 ∧
        mapped .p4 ((loaded [0xCD, 0xCD] { base with pc := 0xFFFF }).byteAt (0xFFFF + 1)) = false) := by decide

end Sys2Proof.Machine
end

section
/-! # The condition codes, the status and the charge of a step (10_state.md) -/

namespace Sys2Proof.Machine

open Sys2Proof

/-! ## Each bit of the CCR after an addition and a subtraction -/

theorem ccrBit_add8 (a m : Byte) (k : Bool) (c : Byte) (f : Flag) :
    ccrBit (add8 a m k c).ccr f =
      if f = .c then decide (a.toNat + m.toNat + k.toNat > 0xFF)
      else if f = .v then (a.getLsbD 7 == m.getLsbD 7) && ((add8 a m k c).value.getLsbD 7 != a.getLsbD 7)
      else if f = .z then (add8 a m k c).value == 0
      else if f = .n then (add8 a m k c).value.getLsbD 7
      else if f = .h then decide ((a &&& 0x0F).toNat + (m &&& 0x0F).toNat + k.toNat > 0x0F)
      else ccrBit c f := by
  cases f <;> simp [add8, ccrBit_nz8]

theorem ccrBit_sub8 (a m : Byte) (k : Bool) (c : Byte) (f : Flag) :
    ccrBit (sub8 a m k c).ccr f =
      if f = .c then decide ((a.toNat : Int) - m.toNat - k.toNat < 0)
      else if f = .v then (a.getLsbD 7 != m.getLsbD 7) && (m.getLsbD 7 == (sub8 a m k c).value.getLsbD 7)
      else if f = .z then (sub8 a m k c).value == 0
      else if f = .n then (sub8 a m k c).value.getLsbD 7
      else ccrBit c f := by
  cases f <;> simp [sub8, ccrBit_nz8]

theorem ccrBit_add16 (a m : Word) (c : Byte) (f : Flag) :
    ccrBit (add16 a m c).ccr f =
      if f = .c then decide (a.toNat + m.toNat > 0xFFFF)
      else if f = .v then (a.getLsbD 15 == m.getLsbD 15) && ((add16 a m c).value.getLsbD 15 != a.getLsbD 15)
      else if f = .z then (add16 a m c).value == 0
      else if f = .n then (add16 a m c).value.getLsbD 15
      else ccrBit c f := by
  cases f <;> simp [add16, ccrBit_nz16]

theorem ccrBit_sub16 (a m : Word) (c : Byte) (f : Flag) :
    ccrBit (sub16 a m c).ccr f =
      if f = .c then decide ((a.toNat : Int) - m.toNat < 0)
      else if f = .v then (a.getLsbD 15 != m.getLsbD 15) && (m.getLsbD 15 == (sub16 a m c).value.getLsbD 15)
      else if f = .z then (sub16 a m c).value == 0
      else if f = .n then (sub16 a m c).value.getLsbD 15
      else ccrBit c f := by
  cases f <;> simp [sub16, ccrBit_nz16]

theorem add16_value (a m : Word) (c : Byte) : (add16 a m c).value = BitVec.ofNat 16 (a.toNat + m.toNat) := rfl

theorem sub16_value (a m : Word) (c : Byte) :
    (sub16 a m c).value = BitVec.ofInt 16 ((a.toNat : Int) - m.toNat) := rfl

/-- Operands of one sign whose sum has the other sign are those whose signed sum a byte cannot hold (10_state.md R37). -/
theorem add8_overflow_eq_outOfRange8 (a m : Byte) (k : Bool) (c : Byte) :
    ((a.getLsbD 7 == m.getLsbD 7) && ((add8 a m k c).value.getLsbD 7 != a.getLsbD 7)) =
      outOfRange8 (a.toInt + m.toInt + k.toNat) := by
  have hk := k.toNat_le
  simp only [add8_value, outOfRange8, BitVec.getLsbD_eq_getElem (show 7 < 8 by decide), byte_sign, BitVec.toNat_ofNat,
    BitVec.toInt_eq_toNat_cond]
  rw [Bool.eq_iff_iff]
  simp only [Bool.and_eq_true, beq_iff_eq, bne_iff_ne, decide_eq_decide, decide_eq_true_iff, ne_eq]
  split <;> split <;> omega

/-! ## What an instruction does to H, I, X and S -/

/-- H, I, X and S say nothing of a result: only the 8-bit additions write H (10_state.md R31), sei, cli and swi write I (R32),
and tap and rti the whole CCR. -/
theorem exec_controlFlag_cases {i : Instr} {s t : State} {f : Flag} (h : exec i s = .next t)
    (hf : f = .h ∨ f = .i ∨ f = .x ∨ f = .s) :
    t.flag f = s.flag f ∨
      (f = .h ∧ ((∃ o, i = .adda o ∨ i = .addb o ∨ i = .adca o ∨ i = .adcb o) ∨ i = .aba)) ∨
      (f = .i ∧ (i = .sei ∨ i = .cli ∨ i = .swi)) ∨ i = .tap ∨ i = .rti := by
  have hne : f ≠ .c ∧ f ≠ .v ∧ f ≠ .z ∧ f ≠ .n := by rcases hf with rfl | rfl | rfl | rfl <;> decide
  cases i
  -- the named writers
  case tap | rti => simp
  case aba | adda | addb | adca | adcb =>
    rcases eq_or_ne f .h with rfl | hh
    · simp
    · cases h; simp [State.flag, ccrBit_add8, hne, hh]
  case sei | cli | swi =>
    rcases eq_or_ne f .i with rfl | hi
    · simp
    · cases h; simp [State.flag, hi]
  -- the rest write flags of a result alone
  case idiv => cases h; split <;> simp [State.flag, hne]
  case fdiv => cases h; (repeat' split) <;> simp [State.flag, hne]
  case stop => cases h; split <;> simp
  all_goals
    cases h
    simp [State.flag, hne, ccrBit_nz8, ccrBit_logic8, ccrBit_logic16, ccrBit_shiftFlags8, ccrBit_shiftFlags16, ccrBit_sub8,
      ccrBit_add16, ccrBit_sub16, clr8, inc8, dec8, neg8, tst8, com8, asl8, asr8, lsr8, rol8, ror8, asl16, lsr16, daa8,
      bitBranchFlags, Config.brbitFlags]

theorem exec_x_cases {i : Instr} {s t : State} (h : exec i s = .next t) :
    t.flag .x = s.flag .x ∨ i = .tap ∨ i = .rti := by
  simpa using exec_controlFlag_cases h (f := .x) (by simp)

/-- No instruction sets X: tap and rti write it through SetCCR (10_state.md R24, R26). -/
theorem exec_keeps_xClear {i : Instr} {s t : State} (h : exec i s = .next t) (hx : s.xClear) : t.xClear := by
  have hx' : ccrBit s.ccr .x = false := hx
  rcases exec_x_cases h with hk | rfl | rfl
  · exact hk.trans hx
  · cases h; simp [State.xClear, hx']
  · cases h; simp [State.xClear, State.flag, returnFromTrap_ccr, hx']

/-! ## What an instruction does to the status -/

/-- wai and stop with S clear are the only writers of the status (10_state.md R44). -/
theorem exec_status {i : Instr} {s t : State} (h : exec i s = .next t) :
    t.status = if i = .wai then .waiting else if i = .stop ∧ s.flag .s = false then .stopped else s.status := by
  cases i
  case stop => cases h; split <;> simp [*]
  case idiv | fdiv => cases h; simp [apply_ite State.status]
  all_goals (cases h; simp)

/-! ## The step's bookkeeping -/

@[simp] theorem beginInstr_flag (i : Instr) (s : State) (f : Flag) : (beginInstr i s).flag f = s.flag f := rfl
@[simp] theorem beginInstr_status (i : Instr) (s : State) : (beginInstr i s).status = s.status := rfl
@[simp] theorem beginInstr_lastPc (i : Instr) (s : State) : (beginInstr i s).lastPc = s.pc := rfl
@[simp] theorem beginInstr_cycles (i : Instr) (s : State) : (beginInstr i s).cycles = s.cycles := rfl

@[simp] theorem chargeCycles_flag (i : Instr) (s : State) (f : Flag) : (chargeCycles i s).flag f = s.flag f := rfl
@[simp] theorem chargeCycles_status (i : Instr) (s : State) : (chargeCycles i s).status = s.status := rfl
@[simp] theorem chargeCycles_lastPc (i : Instr) (s : State) : (chargeCycles i s).lastPc = s.lastPc := rfl
@[simp] theorem chargeCycles_cycles (i : Instr) (s : State) :
    (chargeCycles i s).cycles = s.cycles + BitVec.ofNat 64 (cyclesOf i) := rfl

@[simp] theorem idleStep_flag (s : State) (f : Flag) : (idleStep s).flag f = s.flag f := rfl
@[simp] theorem idleStep_status (s : State) : (idleStep s).status = s.status := rfl

theorem step_keeps_xClear {s t : State} (h : step s = .next t) (hx : s.xClear) : t.xClear := by
  rcases step_cases h with ⟨-, u, hu, rfl⟩ | ⟨-, rfl⟩
  · simpa [State.xClear] using exec_keeps_xClear hu hx
  · simpa [State.xClear] using hx

/-- A running step that changes X runs tap or rti (10_state.md R26). -/
theorem step_x_writers {s t : State} (hr : s.status = .running) (h : step s = .next t) (hx : t.flag .x ≠ s.flag .x) :
    fetchInstr s = .tap ∨ fetchInstr s = .rti := by
  rcases step_cases h with ⟨-, u, hu, rfl⟩ | ⟨hn, -⟩
  · exact (exec_x_cases hu).resolve_left hx
  · exact absurd hr hn

/-! ## The obligations -/

/-- Settles O11: no step sets X, and the writers of X are tap and rti alone. -/
theorem xIsNeverSet : Obligations.XIsNeverSet := by
  refine ⟨rfl, fun s t hs h => step_keeps_xClear h hs, fun s t hr h hx => ?_⟩
  have hs : s.flag .x = true := by
    by_contra hs
    have hs' : s.xClear := Bool.eq_false_iff.2 hs
    exact hx ((step_keeps_xClear h hs').trans hs'.symm)
  exact ⟨hs, by simpa [hs] using hx, step_x_writers hr h hx⟩

/-- Settles O9: no meaning touches last_pc or the cycles, and the charge is added once, after it. -/
theorem stepRecordsAddressAndCharge : Obligations.StepRecordsAddressAndCharge := by
  intro s t hr h
  rcases step_cases h with ⟨-, u, hu, rfl⟩ | ⟨hn, -⟩
  · obtain ⟨hpc, hcycles, -⟩ := exec_bookkeeping hu
    simp [hpc, hcycles]
  · exact absurd hr hn

/-- Settles O10: a running step has the status its instruction leaves, an idle one keeps it. -/
theorem statusTransitions : Obligations.StatusTransitions := by
  intro s t h
  rcases step_cases h with ⟨hr, u, hu, rfl⟩ | ⟨hn, rfl⟩
  · simpa [hr] using exec_status hu
  · simp [hn]

/-- Settles O12: H, I and S are three of the control flags of `exec_controlFlag_cases`. -/
theorem statusBitWriters : Obligations.StatusBitWriters := by
  intro i s t h
  exact ⟨by simpa [or_assoc] using exec_controlFlag_cases h (f := .h) (by simp),
    by simpa [or_assoc] using exec_controlFlag_cases h (f := .i) (by simp),
    by simpa using exec_controlFlag_cases h (f := .s) (by simp)⟩

/-- Settles O27: each building block, flag by flag. -/
theorem resultFlags : Obligations.ResultFlags := by
  intro r c w co f
  simp only [ccrBit_nz8, ccrBit_nz16, ccrBit_logic8, ccrBit_logic16, ccrBit_shiftFlags8, ccrBit_shiftFlags16]
  cases f <;> simp

/-- Settles O28: the bits of `ccrBit_add8` and `ccrBit_add16`; V of a byte is the signed sum out of range. -/
theorem additionFlags : Obligations.AdditionFlags := by
  refine ⟨fun a m c k => ⟨by simp [add8_value], ?_⟩, fun a m c => ⟨by simp [add16_value], ?_⟩⟩
  · simp only [← add8_overflow_eq_outOfRange8 a m k c, ccrBit_add8, reduceCtorEq, if_true, if_false, true_and]
    rintro f (rfl | rfl | rfl) <;> rfl
  · simp only [ccrBit_add16, reduceCtorEq, if_true, if_false, true_and]
    rintro f (rfl | rfl | rfl | rfl) <;> rfl

/-- Settles O29: the bits of `ccrBit_sub8` and `ccrBit_sub16`; H is a flag they keep. -/
theorem subtractionFlags : Obligations.SubtractionFlags := by
  refine ⟨fun a m c k => ⟨by rw [sub8_value, BitVec.toNat_ofInt]; omega, ?_⟩,
    fun a m c => ⟨by rw [sub16_value, BitVec.toNat_ofInt]; omega, ?_⟩⟩
  · simp only [ccrBit_sub8, reduceCtorEq, if_true, if_false, true_and]
    rintro f (rfl | rfl | rfl | rfl) <;> rfl
  · simp only [ccrBit_sub16, reduceCtorEq, if_true, if_false, true_and]
    rintro f (rfl | rfl | rfl | rfl) <;> rfl

/-- Settles O26: the primitives are the spec's formulas by definition, and their bits are the laws of the CCR. -/
theorem flagPrimitives : Obligations.FlagPrimitives := by
  intro v c f g k
  refine ⟨rfl, rfl, rfl, ccrBit_setCcrByte v c f, ?_, by decide⟩
  by_cases h : f = g <;> simp [h]

end Sys2Proof.Machine
end

section
/-! # The bus and the memory: what the data accesses of a step do (20_memory.md) -/

namespace Sys2Proof.Machine

open Sys2Proof

/-! ## The events of one trapped access -/

/-- The calls of an access: one for each registry entry of its address, in registration order (20_memory.md R64). -/
def trapCalls (k : BusKind) (p i : Word) (es : List TrapEntry) : List Event :=
  (es.filter fun e => e.addr == p).map fun e => .trap k e.observer p i

@[simp] theorem Bus.arm_events (k : BusKind) (p i : Word) (u : Bus) : (u.arm k p i).events = u.events := by
  rcases Bus.arm_cases k p i u with h | h <;> rw [h]

theorem Bus.notifyOne_events (k : BusKind) (p i : Word) (u : Bus) (e : TrapEntry) :
    (u.notifyOne k p i e).events = u.events ++ trapCalls k p i [e] := by
  unfold Bus.notifyOne
  split
  next h => cases ho : e.observer <;> simp [trapCalls, Bus.emit, h, ho]
  next h => simp [trapCalls, h]

theorem trapCalls_cons (k : BusKind) (p i : Word) (e : TrapEntry) (es : List TrapEntry) :
    trapCalls k p i (e :: es) = trapCalls k p i [e] ++ trapCalls k p i es := by
  by_cases h : e.addr = p <;> simp [trapCalls, h]

theorem Bus.notifyAll_events (k : BusKind) (p i : Word) (es : List TrapEntry) (u : Bus) :
    (es.foldl (Bus.notifyOne k p i) u).events = u.events ++ trapCalls k p i es := by
  induction es generalizing u with
  | nil => simp [trapCalls]
  | cons e es ih =>
    rw [List.foldl_cons, ih, Bus.notifyOne_events, trapCalls_cons k p i e es, List.append_assoc]

/-- An access appends its transaction and then its calls, and nothing else. -/
theorem Bus.access_events (k : BusKind) (p : Word) (v : Byte) (i : Word) (u : Bus) :
    (u.access k p v i).events = u.events ++ .bus k p v i :: trapCalls k p i u.traps := by
  unfold Bus.access
  rw [Bus.notifyAll_events]
  simp [Bus.emit]

/-- A call stores nothing. -/
@[simp] theorem writesTo_trapCalls (addr : Word) (k : BusKind) (p i : Word) (es : List TrapEntry) :
    writesTo addr (trapCalls k p i es) = [] := by
  simp [writesTo, trapCalls]

@[simp] theorem writesTo_append (addr : Word) (es fs : List Event) :
    writesTo addr (es ++ fs) = writesTo addr es ++ writesTo addr fs := List.filterMap_append

@[simp] theorem writesTo_read (addr p : Word) (v : Byte) (i : Word) (es : List Event) :
    writesTo addr (.bus .read p v i :: es) = writesTo addr es := rfl

@[simp] theorem writesTo_write (addr p : Word) (v : Byte) (i : Word) (es : List Event) :
    writesTo addr (.bus .write p v i :: es) = if p = addr then v :: writesTo addr es else writesTo addr es := by
  by_cases h : p = addr <;> simp [writesTo, h]

theorem dataEventOf_access {k : BusKind} (hk : k ≠ .fetch) (j : Instr) (p : Word) (v : Byte) (i : Word)
    (es : List TrapEntry) : ∀ e ∈ .bus k p v i :: trapCalls k p i es, dataEventOf j i e := by
  intro e he
  rcases List.mem_cons.1 he with rfl | he
  · exact ⟨hk, rfl⟩
  · obtain ⟨x, -, rfl⟩ := List.mem_map.1 he
    exact ⟨hk, rfl⟩

/-! ## All that a meaning does to memory and the bus -/

/-- `t` is reached from `s` by byte accesses at last_pc and by updates of registers, status and free values. -/
inductive Accesses (s : State) : State → Prop
  | refl : Accesses s s
  | read {t : State} (h : Accesses s t) (p : Word) : Accesses s (memRead8 p t).2
  | write {t : State} (h : Accesses s t) (p : Word) (v : Byte) : Accesses s (memWrite8 p v t)
  | registers {t u : State} (h : Accesses s t) (hmem : u.mem = t.mem) (hbus : u.bus = t.bus)
      (hpc : u.lastPc = t.lastPc) : Accesses s u

namespace Accesses

theorem iff_of_same {s t u : State} (hmem : u.mem = t.mem) (hbus : u.bus = t.bus) (hpc : u.lastPc = t.lastPc) :
    Accesses s u ↔ Accesses s t :=
  ⟨fun h => h.registers hmem.symm hbus.symm hpc.symm, fun h => h.registers hmem hbus hpc⟩

section
variable {s t : State}

@[simp] theorem setA_iff (v : Byte) : Accesses s (t.setA v) ↔ Accesses s t := iff_of_same rfl rfl rfl
@[simp] theorem setB_iff (v : Byte) : Accesses s (t.setB v) ↔ Accesses s t := iff_of_same rfl rfl rfl
@[simp] theorem setD_iff (v : Word) : Accesses s (t.setD v) ↔ Accesses s t := iff_of_same rfl rfl rfl
@[simp] theorem setX_iff (v : Word) : Accesses s (t.setX v) ↔ Accesses s t := iff_of_same rfl rfl rfl
@[simp] theorem setY_iff (v : Word) : Accesses s (t.setY v) ↔ Accesses s t := iff_of_same rfl rfl rfl
@[simp] theorem setSp_iff (v : Word) : Accesses s (t.setSp v) ↔ Accesses s t := iff_of_same rfl rfl rfl
@[simp] theorem setPc_iff (v : Word) : Accesses s (t.setPc v) ↔ Accesses s t := iff_of_same rfl rfl rfl
@[simp] theorem setCcr_iff (v : Byte) : Accesses s (t.setCcr v) ↔ Accesses s t := iff_of_same rfl rfl rfl
@[simp] theorem setStatus_iff (v : Status) : Accesses s (t.setStatus v) ↔ Accesses s t := iff_of_same rfl rfl rfl
@[simp] theorem putFlag_iff (f : Flag) (k : Bool) : Accesses s (t.putFlag f k) ↔ Accesses s t := iff_of_same rfl rfl rfl
@[simp] theorem drawBit_iff : Accesses s (drawBit t).2 ↔ Accesses s t := iff_of_same rfl rfl rfl
@[simp] theorem drawWord_iff : Accesses s (drawWord t).2 ↔ Accesses s t := iff_of_same rfl rfl rfl
@[simp] theorem modifyA_iff (g : Byte → Byte → Res8) : Accesses s (modifyA g t) ↔ Accesses s t := by simp [modifyA]
@[simp] theorem modifyB_iff (g : Byte → Byte → Res8) : Accesses s (modifyB g t) ↔ Accesses s t := by simp [modifyB]
@[simp] theorem divideByZero_iff : Accesses s (divideByZero t) ↔ Accesses s t := by simp [divideByZero]
@[simp] theorem divideFlags_iff (q : Word) (k : Bool) : Accesses s (divideFlags q k t) ↔ Accesses s t := by
  simp [divideFlags]
@[simp] theorem divideInteger_iff : Accesses s (divideInteger t) ↔ Accesses s t := by simp [divideInteger]
@[simp] theorem divideFraction_iff : Accesses s (divideFraction t) ↔ Accesses s t := by simp [divideFraction]
@[simp] theorem divideOverflow_iff : Accesses s (divideOverflow t) ↔ Accesses s t := by simp [divideOverflow]
@[simp] theorem branchIf_iff (k : Bool) (rr : Byte) : Accesses s (branchIf k rr t) ↔ Accesses s t := by
  cases k <;> simp [branchIf]

variable (h : Accesses s t)
include h

theorem memRead16 (p : Word) : Accesses s (memRead16 p t).2 := (h.read p).read (p + 1)
theorem memWrite16 (p v : Word) : Accesses s (memWrite16 p v t) := (h.write p _).write (p + 1) _
theorem push8 (v : Byte) : Accesses s (push8 v t) := (setSp_iff _).2 (h.write _ v)
theorem push16 (v : Word) : Accesses s (push16 v t) := (h.push8 _).push8 _
theorem pull8 : Accesses s (pull8 t).2 := ((setSp_iff _).2 h).read _
theorem pull16 : Accesses s (pull16 t).2 := h.pull8.pull8
theorem pullA : Accesses s (pullA t) := (setA_iff _).2 h.pull8
theorem pullB : Accesses s (pullB t) := (setB_iff _).2 h.pull8
theorem pullCcr : Accesses s (pullCcr t) := (setCcr_iff _).2 h.pull8
theorem pullX : Accesses s (pullX t) := (setX_iff _).2 h.pull16
theorem pullY : Accesses s (pullY t) := (setY_iff _).2 h.pull16
theorem pullPc : Accesses s (pullPc t) := (setPc_iff _).2 h.pull16
theorem pushFrame : Accesses s (pushFrame t) :=
  (((((h.push16 _).push16 _).push16 _).push8 _).push8 _).push8 _
theorem takeTrap : Accesses s (takeTrap t) := (setPc_iff _).2 (((putFlag_iff _ _).2 h.pushFrame).memRead16 _)
theorem returnFromTrap : Accesses s (returnFromTrap t) := h.pullCcr.pullB.pullA.pullX.pullY.pullPc
theorem read8 (o : Opnd8) : Accesses s (read8 o t).2 := by
  cases o
  case imm => exact h
  case mem m => exact h.read _
theorem read16 (o : Opnd16) : Accesses s (read16 o t).2 := by
  cases o
  case imm => exact h
  case mem m => exact h.memRead16 _
theorem updateA (g : Byte → Byte → Byte → Res8) (o : Opnd8) : Accesses s (updateA g o t) := by
  simp [Machine.updateA, h.read8 o]
theorem updateB (g : Byte → Byte → Byte → Res8) (o : Opnd8) : Accesses s (updateB g o t) := by
  simp [Machine.updateB, h.read8 o]
theorem updateD (g : Word → Word → Byte → Res16) (o : Opnd16) : Accesses s (updateD g o t) := by
  simp [Machine.updateD, h.read16 o]
theorem compare8 (g : Byte → Byte → Byte → Byte) (v : Byte) (o : Opnd8) : Accesses s (compare8 g v o t) := by
  simp [Machine.compare8, h.read8 o]
theorem compare16 (v : Word) (o : Opnd16) : Accesses s (compare16 v o t) := by
  simp [Machine.compare16, h.read16 o]
theorem modifyMem (g : Byte → Byte → Res8) (p : Word) : Accesses s (modifyMem g p t) :=
  ((setCcr_iff _).2 (h.read p)).write p _
theorem store8 (v : Byte) (m : Ea) : Accesses s (store8 v m t) := ((setCcr_iff _).2 h).write _ v
theorem store16 (v : Word) (m : Ea) : Accesses s (store16 v m t) := ((setCcr_iff _).2 h).memWrite16 _ v
theorem bitBranch (g : Byte → Bool) (m : EaNoExt) (mask rr : Byte) : Accesses s (bitBranch g m mask rr t) := by
  simp [Machine.bitBranch, h.read]

end

/-- Every byte access keeps the canonical form of memory (20_memory.md R47). -/
theorem inv {s t : State} (h : Accesses s t) (hs : s.Inv) : t.Inv := by
  induction h with
  | refl => exact hs
  | read _ p ih => exact ih
  | write _ p v ih => exact memWrite8_inv p v ih
  | registers _ hmem _ _ ih => simpa [State.Inv, hmem] using ih

theorem lastPc {s t : State} (h : Accesses s t) : t.lastPc = s.lastPc := by
  induction h with
  | refl => rfl
  | read _ p ih => exact ih
  | write _ p v ih => exact ih
  | registers _ _ _ hpc ih => exact hpc.trans ih

end Accesses

/-- Every meaning but that of an unmapped opcode, which hands over its diagnostic, is made of byte accesses and register
updates. -/
theorem exec_accesses {i : Instr} {s t : State} (h : exec i s = .next t) :
    Accesses s t ∨ ∃ page op, i = .invalid page op ∧ t = s.emit (.invalidOpcode page op (s.pc - 1) s.lastPc) := by
  cases i
  case invalid page op => cases h; exact .inr ⟨page, op, rfl, rfl⟩
  case swi => cases h; exact .inl (Accesses.refl.takeTrap)
  case rti => cases h; exact .inl (Accesses.refl.returnFromTrap)
  case idiv => cases h; left; split <;> simp [Accesses.refl]
  case fdiv => cases h; left; (repeat' split) <;> simp [Accesses.refl]
  case stop => cases h; left; split <;> simp [Accesses.refl]
  all_goals
    cases h
    left
    simp [Accesses.refl, Accesses.read, Accesses.write, Accesses.push8, Accesses.push16, Accesses.pullA, Accesses.pullB,
      Accesses.pullX, Accesses.pullY, Accesses.pullPc, Accesses.pushFrame, Accesses.read16, Accesses.updateA,
      Accesses.updateB, Accesses.updateD, Accesses.compare8, Accesses.compare16, Accesses.modifyMem, Accesses.store8,
      Accesses.store16, Accesses.bitBranch]

/-! ## What a step records (20_memory.md R65) -/

/-- From `s` to `t` the bus recorded `es`: data events of the instruction at last_pc, whose writes account for every byte of
memory. -/
structure Records (i : Instr) (s t : State) (es : List Event) : Prop where
  events : t.bus.events = s.bus.events ++ es
  data : ∀ e ∈ es, dataEventOf i s.lastPc e
  bytes : ∀ addr : Word, t.byteAt addr = (writesTo addr es).getLastD (s.byteAt addr)

/-- A read or write adds its transaction and calls to the record. -/
theorem Records.access {i : Instr} {s t u : State} {es : List Event} (h : Records i s t es) {k : BusKind} (hk : k ≠ .fetch)
    {p : Word} {v : Byte} (hbus : u.bus = t.bus.access k p v s.lastPc)
    (hbytes : ∀ addr, u.byteAt addr =
      (writesTo addr (.bus k p v s.lastPc :: trapCalls k p s.lastPc t.bus.traps)).getLastD (t.byteAt addr)) :
    Records i s u (es ++ .bus k p v s.lastPc :: trapCalls k p s.lastPc t.bus.traps) where
  events := by rw [hbus, Bus.access_events, h.events, List.append_assoc]
  data := List.forall_mem_append.2 ⟨h.data, dataEventOf_access hk i p v s.lastPc t.bus.traps⟩
  bytes addr := by
    rw [hbytes, h.bytes, writesTo_append]
    simp only [List.getLastD_eq_getLast?, List.getLast?_append]
    cases (writesTo addr (.bus k p v s.lastPc :: _)).getLast? <;> rfl

theorem Accesses.records (i : Instr) {s t : State} (h : Accesses s t) : ∃ es, Records i s t es := by
  induction h with
  | refl => exact ⟨[], by simp, by simp, fun _ => rfl⟩
  | @read t ht p ih =>
    obtain ⟨es, he⟩ := ih
    exact ⟨_, he.access (k := .read) (v := t.byteAt p) (by decide) (by rw [memRead8_bus, ht.lastPc]) (by simp)⟩
  | @write t ht p v ih =>
    obtain ⟨es, he⟩ := ih
    refine ⟨_, he.access (k := .write) (by decide) (by rw [memWrite8_bus, ht.lastPc]) fun addr => ?_⟩
    by_cases ha : addr = p
    · simp [ha]
    · simp [ha, Ne.symm ha]
  | @registers t u ht hmem hbus hpc ih =>
    obtain ⟨es, he⟩ := ih
    exact ⟨es, by rw [hbus, he.events], he.data, fun addr => by rw [State.byteAt, hmem]; exact he.bytes addr⟩

theorem exec_records {i : Instr} {s t : State} (h : exec i s = .next t) : ∃ es, Records i s t es := by
  rcases exec_accesses h with h | ⟨page, op, rfl, rfl⟩
  · exact h.records i
  · exact ⟨[.invalidOpcode page op (s.pc - 1) s.lastPc], rfl, by simp [dataEventOf], fun _ => rfl⟩

theorem exec_keeps_inv {i : Instr} {s t : State} (h : exec i s = .next t) (hs : s.Inv) : t.Inv := by
  rcases exec_accesses h with h | ⟨page, op, -, rfl⟩
  · exact h.inv hs
  · exact hs

/-! ## What the observers cannot reach -/

/-- The state with another bus, cycle counter and last_pc: what a meaning's result does not depend on. -/
def State.withObservers (u : Bus) (c : BitVec 64) (p : Word) (s : State) : State := { s with bus := u, cycles := c, lastPc := p }

section
variable (s : State) (u : Bus) (c : BitVec 64) (p : Word)

@[simp] theorem State.withObservers_a : (s.withObservers u c p).a = s.a := rfl
@[simp] theorem State.withObservers_b : (s.withObservers u c p).b = s.b := rfl
@[simp] theorem State.withObservers_x : (s.withObservers u c p).x = s.x := rfl
@[simp] theorem State.withObservers_y : (s.withObservers u c p).y = s.y := rfl
@[simp] theorem State.withObservers_sp : (s.withObservers u c p).sp = s.sp := rfl
@[simp] theorem State.withObservers_pc : (s.withObservers u c p).pc = s.pc := rfl
@[simp] theorem State.withObservers_ccr : (s.withObservers u c p).ccr = s.ccr := rfl
@[simp] theorem State.withObservers_status : (s.withObservers u c p).status = s.status := rfl
@[simp] theorem State.withObservers_mem : (s.withObservers u c p).mem = s.mem := rfl
@[simp] theorem State.withObservers_freeCount : (s.withObservers u c p).freeCount = s.freeCount := rfl
@[simp] theorem State.withObservers_d : (s.withObservers u c p).d = s.d := rfl
@[simp] theorem State.withObservers_flag (f : Flag) : (s.withObservers u c p).flag f = s.flag f := rfl
@[simp] theorem State.withObservers_byteAt (w : Word) : (s.withObservers u c p).byteAt w = s.byteAt w := rfl
@[simp] theorem State.withObservers_wordAt (w : Word) : (s.withObservers u c p).wordAt w = s.wordAt w := rfl
@[simp] theorem ea_withObservers (m : Ea) : ea m (s.withObservers u c p) = ea m s := by cases m <;> rfl
@[simp] theorem operand8_withObservers (o : Opnd8) : operand8 o (s.withObservers u c p) = operand8 o s := by
  cases o <;> simp [operand8]
@[simp] theorem operand16_withObservers (o : Opnd16) : operand16 o (s.withObservers u c p) = operand16 o s := by
  cases o <;> simp [operand16]
@[simp] theorem pushFrame_withObservers_mem : (pushFrame (s.withObservers u c p)).mem = (pushFrame s).mem := rfl
@[simp] theorem pushFrame_withObservers_wordAt (w : Word) :
    (pushFrame (s.withObservers u c p)).wordAt w = (pushFrame s).wordAt w := rfl

end

/-- Two states agree on all that the observers cannot reach. -/
def SameCore (s t : State) : Prop :=
  t.a = s.a ∧ t.b = s.b ∧ t.x = s.x ∧ t.y = s.y ∧ t.sp = s.sp ∧ t.pc = s.pc ∧ t.ccr = s.ccr ∧ t.status = s.status ∧
    t.mem = s.mem ∧ t.freeCount = s.freeCount

/-- No meaning reads the bus, the cycle counter or last_pc into any other part of the state (20_memory.md R64). -/
theorem exec_sameCore {i : Instr} {s t t' : State} {u : Bus} {c : BitVec 64} {p : Word} (h : exec i s = .next t)
    (h' : exec i (s.withObservers u c p) = .next t') : SameCore t t' := by
  unfold SameCore
  cases i
  case idiv =>
    cases h
    cases h'
    by_cases hx : s.x = 0#16 <;> simp [hx]
  case fdiv =>
    cases h
    cases h'
    by_cases hx : s.x = 0#16
    · simp [hx]
    · by_cases hd : s.x.toNat ≤ s.d.toNat <;> simp [hx, hd]
  case stop =>
    cases h
    cases h'
    by_cases hs : s.flag .s <;> simp [hs]
  all_goals
    cases h
    cases h'
    simp [push16_mem, store16_mem, branchTarget, returnFromTrap_a, returnFromTrap_b, returnFromTrap_x, returnFromTrap_y,
      returnFromTrap_sp, returnFromTrap_pc, returnFromTrap_ccr]

@[simp] theorem fetchInstr_withObservers (s : State) (u : Bus) (c : BitVec 64) (p : Word) :
    fetchInstr (s.withObservers u c p) = fetchInstr s := rfl

/-- The start of a step replaces the events and last_pc, and keeps the rest of the bus as it was altered. -/
theorem beginInstr_withObservers (i : Instr) (s : State) (u : Bus) (c : BitVec 64) (p : Word) :
    beginInstr i (s.withObservers u c p) =
      (beginInstr i s).withObservers { u with events := fetchEvents i.length s } c s.pc := rfl

theorem step_sameCore {s t : State} (u : Bus) (c : BitVec 64) (p : Word) (h : step s = .next t) :
    ∃ t', step (s.withObservers u c p) = .next t' ∧ SameCore t t' := by
  obtain ⟨t', h', -⟩ := polledStep_next (s.withObservers u c p)
  refine ⟨t', h', ?_⟩
  rcases step_cases h with ⟨hr, v, hv, rfl⟩ | ⟨hn, rfl⟩
  · rcases step_cases h' with ⟨-, v', hv', rfl⟩ | ⟨hn', -⟩
    · rw [fetchInstr_withObservers, beginInstr_withObservers] at hv'
      have hcore : SameCore v v' := exec_sameCore hv hv'
      exact hcore
    · exact absurd hr hn'
  · rcases step_cases h' with ⟨hr', -⟩ | ⟨-, rfl⟩
    · exact absurd hr' hn
    · exact ⟨rfl, rfl, rfl, rfl, rfl, rfl, rfl, rfl, rfl, rfl⟩

/-! ## What every step keeps -/

theorem step_keeps_inv {s t : State} (h : step s = .next t) (hs : s.Inv) : t.Inv := by
  rcases step_cases h with ⟨-, u, hu, rfl⟩ | ⟨-, rfl⟩
  · have hi : u.Inv := exec_keeps_inv hu hs
    exact hi
  · exact hs

theorem step_config {s t : State} (h : step s = .next t) : t.bus.config = s.bus.config := by
  rcases step_cases h with ⟨-, u, hu, rfl⟩ | ⟨-, rfl⟩
  · obtain ⟨-, -, hconfig⟩ := exec_bookkeeping hu
    exact hconfig
  · rfl

/-! ## The obligations -/

/-- Settles O14: a running step stores only through `memWrite8`, which keeps the canonical form; an idle one stores nothing. -/
theorem stepKeepsInvariant : Obligations.StepKeepsInvariant :=
  fun _ _ hs h => step_keeps_inv h hs

/-- Settles O18: the instruction fetched does not depend on the observers, and no meaning reads them. -/
theorem observersDoNotAffectTheCore : Obligations.ObserversDoNotAffectTheCore :=
  fun _ _ u c p h => step_sameCore u c p h

/-- Settles O16: no meaning touches the host's configuration, and the step's bookkeeping replaces the events alone. -/
theorem stepKeepsHostConfiguration : Obligations.StepKeepsHostConfiguration := by
  intro s t h
  simpa [Bus.config] using step_config h

/-- Settles O17: the step's events begin with its fetches, and the meaning's record follows them. -/
theorem stepTransactions : Obligations.StepTransactions := by
  intro s t hr h
  rcases step_cases h with ⟨-, u, hu, rfl⟩ | ⟨hn, -⟩
  · obtain ⟨es, hevents, hdata, hbytes⟩ := exec_records hu
    exact ⟨es, hevents, hdata, hbytes⟩
  · exact absurd hr hn

/-- Settles O19: an access appends its transaction and then its calls; the byte read or stored is that of a silent access. -/
theorem trappedAccessNotifies : Obligations.TrappedAccessNotifies := by
  intro s addr v
  refine ⟨rfl, rfl, ?_, fun w => memWrite8_byteAt s addr w v, ?_⟩
  · rw [memRead8_bus, Bus.access_events]; rfl
  · rw [memWrite8_bus, Bus.access_events]; rfl

/-- Settles O25: the primitives are the spec's sequences of byte accesses, and the bytes they leave are the laws of the
stack. -/
theorem stackPrimitives : Obligations.StackPrimitives := by
  intro s v w
  have h : s.sp ≠ s.sp - 1#16 := by bv_omega
  have hread : (pull16 s).1 = joinBytes (s.byteAt (s.sp + 1)) (s.byteAt (s.sp + 2)) := by
    simp [State.wordAt, BitVec.add_assoc]
  exact ⟨rfl, rfl, rfl, hread, rfl, by simp [h], by simp, push16_sp s w, by simp, by simp, by simp [sub_add], by simp⟩

/-- Settles O15: no byte is listed after reset. -/
theorem resetInvariant : Obligations.ResetInvariant := rfl

/-- Settles O24: the accesses are the spec's pairs by definition; a word stored is read back from its two bytes. -/
theorem wordsAreBigEndian : Obligations.WordsAreBigEndian := by
  intro s addr v
  have h : addr ≠ addr + 1#16 := by bv_omega
  exact ⟨rfl, rfl, by simp, by simp [h]⟩

end Sys2Proof.Machine
end

section
/-! # The encoder and the decoder are inverse, and a step runs what they agree on (30_encoding.md) -/

namespace Sys2Proof

open Sys2Proof.Machine

/-! ## Reading back what was encoded -/

/-- The stream of the bytes of a list, and after them those of another stream. -/
def streamOf : List Byte → (Nat → Byte) → Nat → Byte
  | [], tail, n => tail n
  | b :: _, _, 0 => b
  | _ :: bs, tail, n + 1 => streamOf bs tail n

theorem streamOf_append (bs cs : List Byte) :
    (fun n => (bs ++ cs).getD n 0) = streamOf bs fun n => cs.getD n 0 := by
  induction bs with
  | nil => rfl
  | cons b bs ih => funext n; cases n with
    | zero => rfl
    | succ n => exact congrFun ih n

/-- A stream that agrees with a list on the list's length is that list and the rest of the stream. -/
theorem eq_streamOf {get : Nat → Byte} {bs : List Byte} (h : ∀ (n : Nat) (hn : n < bs.length), get n = bs[n]) :
    get = streamOf bs fun n => get (n + bs.length) := by
  induction bs generalizing get with
  | nil => rfl
  | cons b bs ih => funext n; cases n with
    | zero => exact h 0 (Nat.succ_pos _)
    | succ n => exact congrFun (ih (get := fun n => get (n + 1)) fun n hn => h (n + 1) (Nat.succ_lt_succ hn)) n

/-- What is decoded from a list of bytes: `decodeStream` with the first bytes read off the list. -/
def decodeBytes (tail : Nat → Byte) : List Byte → Instr
  | [] => decodeStream tail
  | b :: bs =>
    match pageOfPrefix b, bs with
    | none, bs => decodeOn .p1 b (streamOf bs tail)
    | some p, [] => decodeOn p (tail 0) fun n => tail (n + 1)
    | some p, op :: bs => decodeOn p op (streamOf bs tail)

theorem decodeStream_streamOf (bs : List Byte) (tail : Nat → Byte) :
    decodeStream (streamOf bs tail) = decodeBytes tail bs := by
  cases bs with
  | nil => rfl
  | cons b bs =>
    cases h : pageOfPrefix b with
    | none => simp [decodeBytes, h, decodeStream_page1 (get := streamOf (b :: bs) tail) h, streamOf]
    | some p =>
      cases bs <;> simp [decodeBytes, h, decodeStream_prefixed (get := streamOf (b :: _) tail) h, streamOf]

theorem lookup_eq_none (page : Page) (op : Byte) : lookup page op = none ↔ mapped page op = false := by
  rw [← lookup_isSome, Option.isSome_eq_false_iff, Option.isNone_iff_eq_none]

/-- An unmapped opcode is one the table has no row for, and on page 1 no byte that selects a page. -/
theorem unmapped_iff (page : Page) (op : Byte) :
    unmapped page op = true ↔ lookup page op = none ∧ (page = .p1 → pageOfPrefix op = none) := by
  rw [pageOfPrefix_eq_none, lookup_eq_none]
  cases page <;> simp [unmapped]

/-- A 16-bit operand joined from its two bytes is the operand. -/
theorem eq_of_eq_joinBytes {i : Instr} {mk : Word → Instr} (w : Word) (h : i = mk (joinBytes (hiByte w) (loByte w))) :
    i = mk w := by
  rwa [joinBytes_hiByte_loByte] at h

/-- The bytes of a well-formed instruction are read as that instruction, whatever bytes follow: the row of its opcode builds it
from its operand bytes, a 16-bit operand being joined from its two. -/
theorem decodeBytes_encode (i : Instr) (tail : Nat → Byte) (h : i.wf = true) : decodeBytes tail (encode i) = i := by
  cases i
  case invalid page op =>
    obtain ⟨hrow, hpage⟩ := (unmapped_iff page op).1 h
    cases page
    case p1 => simp [encode, prefixOfPage, decodeBytes, hpage rfl, decodeOn_none _ hrow]
    all_goals exact decodeOn_none _ hrow
  case prefixByte => cases h
  case ldaa o | ldab o | adda o | adca o | addb o | adcb o | suba o | sbca o | subb o | sbcb o | cmpa o | cmpb o | anda o |
      andb o | eora o | eorb o | oraa o | orab o | bita o | bitb o =>
    rcases o with _ | _ | hl | _ | _
    case mem.ext => apply eq_of_eq_joinBytes hl; rfl
    all_goals rfl
  case ldd o | lds o | ldx o | ldy o | addd o | subd o | cpd o | cpx o | cpy o =>
    rcases o with jk | _ | hl | _ | _
    case imm => apply eq_of_eq_joinBytes jk; rfl
    case mem.ext => apply eq_of_eq_joinBytes hl; rfl
    all_goals rfl
  case staa m | stab m | std m | sts m | stx m | sty m | jsr m =>
    rcases m with _ | hl | _ | _
    case ext => apply eq_of_eq_joinBytes hl; rfl
    all_goals rfl
  case clr m | inc m | dec m | neg m | tst m | com m | asl m | asr m | lsr m | rol m | ror m | jmp m =>
    rcases m with hl | _ | _
    case ext => apply eq_of_eq_joinBytes hl; rfl
    all_goals rfl
  case bset m _ | bclr m _ | brset m _ _ | brclr m _ _ => cases m <;> rfl
  -- the inherent instructions and the branches have no forms
  all_goals rfl

theorem decodeStream_streamOf_encode {i : Instr} (tail : Nat → Byte) (h : i.wf = true) :
    decodeStream (streamOf (encode i) tail) = i := by
  rw [decodeStream_streamOf, decodeBytes_encode i tail h]

/-! ## Encoding back what was read -/

/-- The instruction is well formed and those are its bytes. -/
def Instr.HasBytes (i : Instr) (bs : List Byte) : Prop := i.wf = true ∧ encode i = bs

/-- The operand bytes of a format in the encoding of the instruction it builds (30_encoding.md R72). -/
def Form.operands : Form → (Nat → Byte) → List Byte
  | .fInh _, _ => []
  | .fImm8 _, get | .fDir _, get | .fInd _, get | .fRel _, get => [get 0]
  | .fImm16 _, get | .fExt _, get => [hiByte (joinBytes (get 0) (get 1)), loByte (joinBytes (get 0) (get 1))]
  | .fBit _, get => [get 0, get 1]
  | .fBrb _, get => [get 0, get 1, get 2]

/-- The operand bytes are the first bytes after the opcode, at most three. -/
theorem Form.operands_eq (f : Form) (get : Nat → Byte) : ∃ k ≤ 3, f.operands get = (List.range k).map get := by
  cases f
  case fInh => exact ⟨0, by decide, rfl⟩
  case fImm16 | fExt => exact ⟨2, by decide, by simp [Form.operands, List.range_succ]⟩
  case fBit => exact ⟨2, by decide, rfl⟩
  case fBrb => exact ⟨3, by decide, rfl⟩
  all_goals exact ⟨1, by decide, rfl⟩

/-- The maps R91 to R94, row by row, agree with the Encoding line of the instruction the row builds. -/
theorem rowsFor_encode (page : Page) (op : Byte) (get : Nat → Byte) :
    (rowsFor page op).map (fun r => ((r.form.build get).wf, encode (r.form.build get))) =
      (rowsFor page op).map fun r => (true, prefixOfPage page ++ r.op :: r.form.operands get) := by
  cases page
  case p1 =>
    show (page1RowsFor _).map _ = (page1RowsFor _).map _
    unfold page1RowsFor
    split <;> rfl
  all_goals rfl

/-- What is decoded on a page has the bytes that lead to the page, the opcode, and at most three operand bytes. -/
theorem decodeOn_hasBytes {page : Page} {op : Byte} (hpage : page = .p1 → pageOfPrefix op = none) (get : Nat → Byte) :
    ∃ k ≤ 3, (decodeOn page op get).HasBytes (prefixOfPage page ++ op :: (List.range k).map get) := by
  cases hrow : lookup page op with
  | none =>
    rw [decodeOn_none get hrow]
    exact ⟨0, by decide, (unmapped_iff page op).2 ⟨hrow, hpage⟩, rfl⟩
  | some r =>
    obtain ⟨hwf, hencode⟩ := Prod.mk.inj (List.map_inj_left.1 (rowsFor_encode page op get) r (List.mem_of_find?_eq_some hrow))
    obtain ⟨k, hk, hoperands⟩ := r.form.operands_eq get
    rw [hoperands, lookup_op hrow] at hencode
    rw [decodeOn_some get hrow]
    exact ⟨k, hk, hwf, hencode⟩

theorem pageOfPrefix_ne_p1 (b : Byte) : pageOfPrefix b ≠ some .p1 := by
  unfold pageOfPrefix
  repeat' split
  all_goals decide

/-- What is decoded from a stream is well formed and encoded as the stream's first bytes, of which it has 1 to 5
(30_encoding.md R71, R73). -/
theorem decodeStream_hasBytes (get : Nat → Byte) :
    ∃ k, 1 ≤ k ∧ k ≤ 5 ∧ (decodeStream get).HasBytes ((List.range k).map get) := by
  cases h : pageOfPrefix (get 0) with
  | none =>
    obtain ⟨k, hk, hbytes⟩ := decodeOn_hasBytes (page := .p1) (fun _ => h) fun n => get (n + 1)
    refine ⟨k + 1, by omega, by omega, ?_⟩
    simpa [decodeStream_page1 h, prefixOfPage, List.range_succ_eq_map, Function.comp_def] using hbytes
  | some p =>
    have hpage : p = .p1 → pageOfPrefix (get 1) = none := fun hp => absurd (hp ▸ h) (pageOfPrefix_ne_p1 _)
    obtain ⟨k, hk, hbytes⟩ := decodeOn_hasBytes hpage fun n => get (n + 2)
    refine ⟨k + 2, by omega, by omega, ?_⟩
    simpa [decodeStream_prefixed h, prefixOfPage_pageOfPrefix h, List.range_succ_eq_map, Function.comp_def] using hbytes

/-- The first bytes of the stream `decode` makes of a list are the list's own. -/
theorem range_map_getD {bs : List Byte} {k : Nat} (h : k ≤ bs.length) :
    (List.range k).map (fun n => bs.getD n 0) = bs.take k := by
  apply List.ext_getElem
  · simp [h]
  · intro n hn _
    have hlt : n < bs.length := by simp at hn; omega
    simp [hlt]

/-! ## The obligations on lists of bytes -/

/-- Settles O1: the stream a list stands for is read as the instruction, and the bytes left are those after its own. -/
theorem decodeEncodeRoundTrip : Obligations.DecodeEncodeRoundTrip := by
  intro i rest h
  simp only [decode, streamOf_append, decodeStream_streamOf_encode _ h, Instr.length, List.length_append, Nat.le_add_right,
    if_true, List.drop_left]

/-- Settles O2: the bytes of what is read are the first of the list, which has at least as many. -/
theorem decodeConsumesExactlyTheEncoding : Obligations.DecodeConsumesExactlyTheEncoding := by
  intro bs rest i h
  obtain ⟨k, hpos, hle, hwf, hencode⟩ := decodeStream_hasBytes fun n => bs.getD n 0
  have hlength : (decodeStream fun n => bs.getD n 0).length = k := by rw [Instr.length, hencode]; simp
  simp only [decode, hlength] at h
  split at h
  next hk =>
    cases h
    rw [range_map_getD hk] at hencode
    exact ⟨hwf, by rw [hencode, List.take_append_drop], by omega, by omega⟩
  next => cases h

/-- Settles O4: the lists and counts are finite tables; an unmapped opcode is read back from its bytes. -/
theorem unmappedOpcodesDecode : Obligations.UnmappedOpcodesDecode := by
  refine ⟨by decide +kernel, by decide +kernel, by decide +kernel, by decide +kernel, ?_⟩
  intro page op rest h
  simpa [encode] using decodeEncodeRoundTrip (.invalid page op) rest h

/-- Settles O5: no byte that selects a page has a row on a page it selects. -/
theorem prefixInSecondPosition : Obligations.PrefixInSecondPosition := by
  intro p q rest
  obtain ⟨page, hpage, h⟩ : ∃ page, pageOfPrefix p.byte = some page ∧ unmapped page q.byte = true := by
    cases p <;> exact ⟨_, rfl, by cases q <;> rfl⟩
  have hdecode := decodeEncodeRoundTrip (.invalid page q.byte) rest h
  rw [encode, prefixOfPage_pageOfPrefix hpage] at hdecode
  exact ⟨page, hpage, hdecode⟩

/-- Settles O3: the decoder run on each of the byte sequences. -/
theorem sampleWordsDecode : Obligations.SampleWordsDecode := by
  unfold Obligations.SampleWordsDecode
  and_intros <;> decide

end Sys2Proof

namespace Sys2Proof.Machine

open Sys2Proof

/-! ## The instruction at PC -/

@[simp] theorem instrByte_zero (s : State) : instrByte s 0 = s.byteAt s.pc := by simp [instrByte]

theorem instrByte_one (s : State) : instrByte s 1 = s.byteAt (s.pc + 1) := rfl

/-- When the bytes at PC are those of a well-formed instruction, it is the instruction fetched. -/
theorem fetchInstr_eq {s : State} {i : Instr} (hi : i.wf = true)
    (h : ∀ (n : Nat) (hn : n < (encode i).length), s.byteAt (s.pc + BitVec.ofNat 16 n) = (encode i)[n]) :
    fetchInstr s = i := by
  rw [fetchInstr, eq_streamOf (get := instrByte s) h, decodeStream_streamOf_encode _ hi]

/-- What is fetched is well formed, whatever memory holds. -/
theorem fetchInstr_wf (s : State) : (fetchInstr s).wf = true := by
  obtain ⟨-, -, -, hwf, -⟩ := decodeStream_hasBytes (instrByte s)
  exact hwf

theorem step_eq {s u : State} (hr : s.status = .running)
    (h : exec (fetchInstr s) (beginInstr (fetchInstr s) s) = .next u) : step s = .next (chargeCycles (fetchInstr s) u) := by
  simp [step, hr, h]

/-- Settles O6: the instruction at PC is fetched, and `beginInstr` and `chargeCycles` are the bookkeeping around it. -/
theorem stepRunsDecodedInstruction : Obligations.StepRunsDecodedInstruction := by
  intro s i hr hi hbytes
  obtain ⟨u, hu⟩ := exec_next i (beginInstr i s)
  have hf : fetchInstr s = i := fetchInstr_eq hi hbytes
  have hstep : step s = .next (chargeCycles i u) := by rw [step_eq hr (u := u) (by rw [hf, hu]), hf]
  rw [beginInstr_eq, Instr.length] at hu
  rw [hstep, hu]
  rfl

/-! ## Unmapped opcodes -/

theorem opcodeKey_prefixOfPage {page : Page} {op : Byte} (h : page = .p1 → pageOfPrefix op = none) :
    opcodeKey (prefixOfPage page ++ [op]) = some (page, op) := by
  cases page
  case p1 => simp [prefixOfPage, opcodeKey, h]
  all_goals rfl

/-- An unmapped opcode is charged the free constant of its page (log entry 5). -/
theorem cyclesOf_invalid {page : Page} {op : Byte} (h : unmapped page op = true) :
    cyclesOf (.invalid page op) = Config.invalidOpcodeCycles page := by
  obtain ⟨hrow, hpage⟩ := (unmapped_iff page op).1 h
  simp [cyclesOf, encode, opcodeKey_prefixOfPage hpage, hrow]

theorem exec_invalid (page : Page) (op : Byte) (s : State) :
    exec (.invalid page op) s = .next (s.emit (.invalidOpcode page op (s.pc - 1) s.lastPc)) := rfl

/-- A step that fetches an unmapped opcode: its fetches, its diagnostic and its charge. -/
theorem step_invalid {s : State} {page : Page} {op : Byte} (hr : s.status = .running)
    (h : fetchInstr s = .invalid page op) :
    step s =
      .next
        { s with
          lastPc := s.pc
          pc := s.pc + BitVec.ofNat 16 (Instr.invalid page op).length
          cycles := s.cycles + BitVec.ofNat 64 (Config.invalidOpcodeCycles page)
          bus :=
            { s.bus with
              events :=
                fetchEvents (Instr.invalid page op).length s ++
                  [.invalidOpcode page op (s.pc + BitVec.ofNat 16 (Instr.invalid page op).length - 1) s.pc] } } := by
  have hwf := fetchInstr_wf s
  rw [h] at hwf
  rw [step_eq hr (by rw [h, exec_invalid]), h, ← cyclesOf_invalid hwf]
  rfl

/-- Settles O58: the table has no row for the byte on its page, so an unmapped opcode is fetched. -/
theorem unmappedOpcodeIsANoOp : Obligations.UnmappedOpcodeIsANoOp := by
  intro s hr
  constructor
  · intro h
    obtain ⟨hrow, hpage⟩ := (unmapped_iff _ _).1 h
    rw [← instrByte_zero] at hrow hpage
    have hf : fetchInstr s = .invalid .p1 (instrByte s 0) :=
      (decodeStream_page1 (hpage rfl)).trans (decodeOn_none _ hrow)
    simpa [Instr.length, encode, prefixOfPage, fetchEvents] using step_invalid hr hf
  · intro page hpage hmapped
    have hbytes := prefixOfPage_pageOfPrefix hpage
    rw [← instrByte_zero] at hpage
    have hf : fetchInstr s = .invalid page (instrByte s 1) :=
      (decodeStream_prefixed hpage).trans (decodeOn_none _ ((lookup_eq_none _ _).2 hmapped))
    have haddr : s.pc + 2#16 - 1#16 = s.pc + 1#16 := by bv_omega
    simpa [Instr.length, encode, hbytes, fetchEvents, List.range_succ, instrByte_one, haddr] using step_invalid hr hf

/-- Settles O59: the diagnostic is all the one appends, the other is the identity; what is fetched is well formed, and a
byte that only selects a page is not. -/
theorem invalidAndPrefixArms : Obligations.InvalidAndPrefixArms := by
  intro s
  refine ⟨fun page op => ⟨_, exec_invalid page op s, ?_, rfl, rfl⟩, fun p => ⟨rfl, fun h => ?_⟩⟩
  · intro p _
    cases p <;> simp [Part.same]
  · have hwf := fetchInstr_wf s
    rw [h] at hwf
    cases hwf

end Sys2Proof.Machine
end

section
/-! # Loads, stores, transfers and the stack (40_load_store_transfer.md): frames, one rule for each operation, and the
instructions made of them -/

namespace Sys2Proof.Machine

open Sys2Proof

/-! ## Frames: which parts each operation may change -/

/-- Every flag but the listed ones is the same in the second CCR. -/
def KeepsFlags (parts : List Part) (c c' : Byte) : Prop := ∀ f : Flag, .flag f ∉ parts → ccrBit c' f = ccrBit c f

theorem KeepsFlags.cons {parts : List Part} {c c' : Byte} (p : Part) (h : KeepsFlags parts c c') :
    KeepsFlags (p :: parts) c c' :=
  fun f hf => h f fun hm => hf (List.mem_cons_of_mem p hm)

theorem flag_mem_partsNzv {f : Flag} : .flag f ∈ partsNzv ↔ f = .n ∨ f = .z ∨ f = .v := by simp [partsNzv]

theorem flag_mem_partsNzvc {f : Flag} : .flag f ∈ partsNzvc ↔ f = .n ∨ f = .z ∨ f = .v ∨ f = .c := by simp [partsNzvc]

theorem keepsFlags_logic8 (r c : Byte) : KeepsFlags partsNzv c (logic8 r c) := by
  intro f hf
  simp only [flag_mem_partsNzv, not_or] at hf
  simp [ccrBit_logic8, hf]

theorem keepsFlags_logic16 (r : Word) (c : Byte) : KeepsFlags partsNzv c (logic16 r c) := by
  intro f hf
  simp only [flag_mem_partsNzv, not_or] at hf
  simp [ccrBit_logic16, hf]

theorem ccrBit_clr8 (c : Byte) (f : Flag) :
    ccrBit (clr8 c).ccr f = if f = .z then true else if f = .n ∨ f = .v ∨ f = .c then false else ccrBit c f := by
  cases f <;> simp [clr8]

theorem keepsFlags_clr8 (c : Byte) : KeepsFlags partsNzvc c (clr8 c).ccr := by
  intro f hf
  simp only [flag_mem_partsNzvc, not_or] at hf
  simp [ccrBit_clr8, hf]

theorem Part.same_trans {s t u : State} {p : Part} (h : p.same s t) (h' : p.same t u) : p.same s u := by
  cases p
  case mem => exact fun w => (h' w).trans (h w)
  all_goals exact Eq.trans h' h

theorem Part.same_symm {s t : State} {p : Part} (h : p.same s t) : p.same t s := by
  cases p
  case mem => exact fun w => (h w).symm
  all_goals exact Eq.symm h

namespace OnlyChanges

section
variable {parts : List Part} {s t u : State}

@[simp] theorem refl (parts : List Part) (s : State) : OnlyChanges parts s s := by
  intro p _
  cases p <;> simp [Part.same]

/-- A further operation that changes only listed parts makes no difference to a frame. -/
theorem iff_of_onlyChanges (h : OnlyChanges parts t u) : OnlyChanges parts s u ↔ OnlyChanges parts s t :=
  ⟨fun hu p hp => Part.same_trans (hu p hp) (Part.same_symm (h p hp)), fun ht p hp => Part.same_trans (ht p hp) (h p hp)⟩

/-- An operation that changes one part alone makes no difference to a frame that lists it. -/
theorem iff_of_part {q : Part} (hq : q ∈ parts) (h : ∀ p ≠ q, p.same t u) : OnlyChanges parts s u ↔ OnlyChanges parts s t :=
  iff_of_onlyChanges fun p hp => h p fun e => hp (e ▸ hq)

@[simp] theorem setA_iff (v : Byte) (h : .a ∈ parts) : OnlyChanges parts s (t.setA v) ↔ OnlyChanges parts s t :=
  iff_of_part h fun p hp => by cases p <;> simp [Part.same] at hp ⊢

@[simp] theorem setB_iff (v : Byte) (h : .b ∈ parts) : OnlyChanges parts s (t.setB v) ↔ OnlyChanges parts s t :=
  iff_of_part h fun p hp => by cases p <;> simp [Part.same] at hp ⊢

@[simp] theorem setX_iff (v : Word) (h : .x ∈ parts) : OnlyChanges parts s (t.setX v) ↔ OnlyChanges parts s t :=
  iff_of_part h fun p hp => by cases p <;> simp [Part.same] at hp ⊢

@[simp] theorem setY_iff (v : Word) (h : .y ∈ parts) : OnlyChanges parts s (t.setY v) ↔ OnlyChanges parts s t :=
  iff_of_part h fun p hp => by cases p <;> simp [Part.same] at hp ⊢

@[simp] theorem setSp_iff (v : Word) (h : .sp ∈ parts) : OnlyChanges parts s (t.setSp v) ↔ OnlyChanges parts s t :=
  iff_of_part h fun p hp => by cases p <;> simp [Part.same] at hp ⊢

@[simp] theorem setD_iff (v : Word) (ha : .a ∈ parts) (hb : .b ∈ parts) :
    OnlyChanges parts s (t.setD v) ↔ OnlyChanges parts s t := by
  simp [State.setD, ha, hb]

/-- A write of the CCR that keeps the unlisted flags of the first state keeps a frame. -/
theorem setCcr {c : Byte} (h : OnlyChanges parts s t) (hc : KeepsFlags parts s.ccr c) : OnlyChanges parts s (t.setCcr c) := by
  intro p hp
  cases p
  case flag f => exact hc f hp
  all_goals exact h _ hp

@[simp] theorem memRead8_iff (p : Word) : OnlyChanges parts s (memRead8 p t).2 ↔ OnlyChanges parts s t :=
  iff_of_onlyChanges fun q _ => by cases q <;> simp [Part.same]

@[simp] theorem read8_iff (o : Opnd8) : OnlyChanges parts s (read8 o t).2 ↔ OnlyChanges parts s t := by
  cases o <;> simp [read8]

@[simp] theorem read16_iff (o : Opnd16) : OnlyChanges parts s (read16 o t).2 ↔ OnlyChanges parts s t := by
  cases o <;> simp [read16, memRead16]

@[simp] theorem memWrite8_iff (p : Word) (v : Byte) (h : .mem ∈ parts) :
    OnlyChanges parts s (memWrite8 p v t) ↔ OnlyChanges parts s t :=
  iff_of_part h fun q hq => by cases q <;> simp [Part.same] at hq ⊢

@[simp] theorem memWrite16_iff (p v : Word) (h : .mem ∈ parts) :
    OnlyChanges parts s (memWrite16 p v t) ↔ OnlyChanges parts s t := by
  simp [memWrite16, h]

@[simp] theorem push8_iff (v : Byte) (hsp : .sp ∈ parts) (hmem : .mem ∈ parts) :
    OnlyChanges parts s (push8 v t) ↔ OnlyChanges parts s t := by
  simp [push8, hsp, hmem]

@[simp] theorem push16_iff (v : Word) (hsp : .sp ∈ parts) (hmem : .mem ∈ parts) :
    OnlyChanges parts s (push16 v t) ↔ OnlyChanges parts s t := by
  simp [push16, hsp, hmem]

@[simp] theorem pull8_iff (hsp : .sp ∈ parts) : OnlyChanges parts s (pull8 t).2 ↔ OnlyChanges parts s t := by
  simp [pull8, hsp]

@[simp] theorem pull16_iff (hsp : .sp ∈ parts) : OnlyChanges parts s (pull16 t).2 ↔ OnlyChanges parts s t := by
  simp [pull16, hsp]

end

end OnlyChanges

/-! ## The flags a result sets -/

theorem setsLogic8_of_ccr {r c : Byte} {t : State} (h : t.ccr = logic8 r c) : SetsLogic8 r t := by
  simp [SetsLogic8, setsNz8_iff, State.flag_eq, h, ccrBit_logic8]

theorem setsLogic16_of_ccr {r : Word} {c : Byte} {t : State} (h : t.ccr = logic16 r c) : SetsLogic16 r t := by
  simp [SetsLogic16, setsNz16_iff, State.flag_eq, h, ccrBit_logic16]

theorem flags_of_ccr_clr8 {c : Byte} {t : State} (h : t.ccr = (clr8 c).ccr) :
    t.flag .n = false ∧ t.flag .z = true ∧ t.flag .v = false ∧ t.flag .c = false := by
  simp [State.flag_eq, h, ccrBit_clr8]

/-! ## The shapes the instructions are made of -/

theorem onlyChanges_updateA {parts : List Part} {s : State} {g : Byte → Byte → Byte → Res8} {o : Opnd8}
    (h : KeepsFlags parts s.ccr (g s.a (operand8 o s) s.ccr).ccr) : OnlyChanges (.a :: parts) s (updateA g o s) :=
  .setCcr (by simp) (by simpa using h.cons .a)

theorem onlyChanges_updateB {parts : List Part} {s : State} {g : Byte → Byte → Byte → Res8} {o : Opnd8}
    (h : KeepsFlags parts s.ccr (g s.b (operand8 o s) s.ccr).ccr) : OnlyChanges (.b :: parts) s (updateB g o s) :=
  .setCcr (by simp) (by simpa using h.cons .b)

theorem onlyChanges_updateD {parts : List Part} {s : State} {g : Word → Word → Byte → Res16} {o : Opnd16}
    (h : KeepsFlags parts s.ccr (g s.d (operand16 o s) s.ccr).ccr) :
    OnlyChanges (.a :: .b :: parts) s (updateD g o s) :=
  .setCcr (by simp) (by simpa using (h.cons .b).cons .a)

theorem onlyChanges_modifyA {parts : List Part} {s : State} {g : Byte → Byte → Res8}
    (h : KeepsFlags parts s.ccr (g s.a s.ccr).ccr) : OnlyChanges (.a :: parts) s (modifyA g s) :=
  .setCcr (by simp) (h.cons .a)

theorem onlyChanges_modifyB {parts : List Part} {s : State} {g : Byte → Byte → Res8}
    (h : KeepsFlags parts s.ccr (g s.b s.ccr).ccr) : OnlyChanges (.b :: parts) s (modifyB g s) :=
  .setCcr (by simp) (h.cons .b)

/-- A pair of instructions made of `updateA` and `updateB` with one function does what that function says of the value and
of the CCR. -/
theorem updatesAccumulator_of {onA onB : Opnd8 → Instr} {s : State} {g : Byte → Byte → Byte → Res8}
    {result : Byte → Byte → Byte} {flags : Byte → Byte → State → Prop} {parts : List Part}
    (hA : ∀ o, exec (onA o) s = .next (updateA g o s)) (hB : ∀ o, exec (onB o) s = .next (updateB g o s))
    (hvalue : ∀ r m, (g r m s.ccr).value = result r m)
    (hflags : ∀ r m t, t.ccr = (g r m s.ccr).ccr → flags r m t)
    (hkeeps : ∀ r m, KeepsFlags parts s.ccr (g r m s.ccr).ccr) : UpdatesAccumulator onA onB s result flags parts :=
  fun o =>
    ⟨⟨_, hA o, by simp [hvalue], hflags _ _ _ (by simp), onlyChanges_updateA (hkeeps _ _)⟩,
      ⟨_, hB o, by simp [hvalue], hflags _ _ _ (by simp), onlyChanges_updateB (hkeeps _ _)⟩⟩

theorem memOnlyAt_memWrite8 (p : Word) (v : Byte) (s : State) : MemOnlyAt [p] s (memWrite8 p v s) :=
  memOnlyAt_of fun w => by by_cases h : w = p <;> simp [h]

/-- All that a byte store does (40 R107, R108). -/
theorem store8_spec (v : Byte) (m : Ea) (s : State) :
    (store8 v m s).byteAt (ea m s) = v ∧ SetsLogic8 v (store8 v m s) ∧ OnlyChanges (.mem :: partsNzv) s (store8 v m s) ∧
      MemOnlyAt [ea m s] s (store8 v m s) := by
  refine ⟨by simp, setsLogic8_of_ccr (store8_ccr s v m), ?_, memOnlyAt_of fun w => ?_⟩
  · exact (OnlyChanges.memWrite8_iff _ _ (by simp)).2 (.setCcr (.refl _ s) ((keepsFlags_logic8 v s.ccr).cons .mem))
  · by_cases h : w = ea m s <;> simp [h]

theorem store16_wordAt_ea (v : Word) (m : Ea) (s : State) : (store16 v m s).wordAt (ea m s) = v := by simp [store16]

/-- What a word store changes (40 R109 to R112). -/
theorem store16_frame (v : Word) (m : Ea) (s : State) :
    SetsLogic16 v (store16 v m s) ∧ OnlyChanges (.mem :: partsNzv) s (store16 v m s) ∧
      MemOnlyAt [ea m s, ea m s + 1] s (store16 v m s) := by
  refine ⟨setsLogic16_of_ccr (store16_ccr s v m), ?_, memOnlyAt_of fun w => ?_⟩
  · exact (OnlyChanges.memWrite16_iff _ _ (by simp)).2 (.setCcr (.refl _ s) ((keepsFlags_logic16 v s.ccr).cons .mem))
  · by_cases h : w = ea m s <;> by_cases h' : w = ea m s + 1#16 <;> simp [h, h']

/-- All that a push of a byte does (20_memory.md R55). -/
theorem push8_spec (v : Byte) (s : State) :
    (push8 v s).byteAt s.sp = v ∧ (push8 v s).sp = s.sp - 1 ∧ OnlyChanges [.sp, .mem] s (push8 v s) ∧
      MemOnlyAt [s.sp] s (push8 v s) :=
  ⟨by simp, push8_sp s v, by simp, memOnlyAt_of fun w => by by_cases h : w = s.sp <;> simp [h]⟩

/-- All that a push of a word does (20_memory.md R55). -/
theorem push16_spec (v : Word) (s : State) :
    (push16 v s).wordAt (s.sp - 1) = v ∧ (push16 v s).sp = s.sp - 2 ∧ OnlyChanges [.sp, .mem] s (push16 v s) ∧
      MemOnlyAt [s.sp, s.sp - 1] s (push16 v s) := by
  refine ⟨push16_wordAt s v, push16_sp s v, by simp, memOnlyAt_of fun w => ?_⟩
  by_cases h : w = s.sp <;> by_cases h' : w = s.sp - 1#16 <;> simp [h, h']

/-! ## The obligations -/

/-- Settles O30: the value read is the operand, and the flags are those of `logic8` or `logic16` of it. -/
theorem loads : Obligations.Loads := by
  intro s
  refine ⟨updatesAccumulator_of (fun _ => rfl) (fun _ => rfl) (fun _ _ => rfl) (fun _ _ _ => setsLogic8_of_ccr)
    (fun _ m => keepsFlags_logic8 m s.ccr), fun o => ?_⟩
  have hkeeps := keepsFlags_logic16 (operand16 o s) s.ccr
  refine ⟨⟨_, rfl, by simp, by simp, by simp, setsLogic16_of_ccr (c := s.ccr) (by simp), onlyChanges_updateD hkeeps⟩,
    ⟨_, rfl, by simp, setsLogic16_of_ccr (c := s.ccr) (by simp), ?_⟩,
    ⟨_, rfl, by simp, setsLogic16_of_ccr (c := s.ccr) (by simp), ?_⟩,
    ⟨_, rfl, by simp, setsLogic16_of_ccr (c := s.ccr) (by simp), ?_⟩⟩
  all_goals exact .setCcr (by simp) (by simpa using hkeeps.cons _)

/-- Settles O31: each is `store8` or `store16` of its register. -/
theorem stores : Obligations.Stores := by
  intro m s
  have hne : ea m s ≠ ea m s + 1#16 := by bv_omega
  exact ⟨⟨_, rfl, store8_spec s.a m s⟩, ⟨_, rfl, store8_spec s.b m s⟩,
    ⟨_, rfl, by simp [hne], by simp, store16_frame s.d m s⟩,
    ⟨_, rfl, store16_wordAt_ea s.sp m s, store16_frame s.sp m s⟩,
    ⟨_, rfl, store16_wordAt_ea s.x m s, store16_frame s.x m s⟩,
    ⟨_, rfl, store16_wordAt_ea s.y m s, store16_frame s.y m s⟩⟩

/-- Settles O32: all three write the value and the CCR of `clr8`, to A, to B and to the byte at EA. -/
theorem clears : Obligations.Clears := by
  intro s
  have hkeeps := keepsFlags_clr8 s.ccr
  refine ⟨⟨_, rfl, rfl, flags_of_ccr_clr8 rfl, onlyChanges_modifyA hkeeps⟩,
    ⟨_, rfl, rfl, flags_of_ccr_clr8 rfl, onlyChanges_modifyB hkeeps⟩,
    fun m => ⟨_, rfl, by simp [clr8], flags_of_ccr_clr8 rfl, ?_, memOnlyAt_memWrite8 _ _ _⟩⟩
  exact (OnlyChanges.memWrite8_iff _ _ (by simp)).2 (.setCcr (.refl _ s) (hkeeps.cons .mem))

/-- Settles O33: each is a push or a pull of the stack primitives. -/
theorem pushesAndPulls : Obligations.PushesAndPulls := by
  intro s
  exact ⟨⟨_, rfl, push8_spec s.a s⟩, ⟨_, rfl, push8_spec s.b s⟩, ⟨_, rfl, push16_spec s.x s⟩, ⟨_, rfl, push16_spec s.y s⟩,
    ⟨_, rfl, pullA_a s, pullA_sp s, by simp [pullA]⟩, ⟨_, rfl, pullB_b s, pullB_sp s, by simp [pullB]⟩,
    ⟨_, rfl, pullX_x s, pullX_sp s, by simp [pullX]⟩, ⟨_, rfl, pullY_y s, pullY_sp s, by simp [pullY]⟩⟩

/-- Settles O34: each is one or two register writes; tab and tba set the CCR to `logic8` of the byte moved. -/
theorem transfers : Obligations.Transfers := by
  intro s
  refine ⟨⟨_, rfl, rfl, setsLogic8_of_ccr rfl, ?_⟩, ⟨_, rfl, rfl, setsLogic8_of_ccr rfl, ?_⟩,
    ⟨_, rfl, rfl, by simp⟩, ⟨_, rfl, rfl, by simp⟩, ⟨_, rfl, rfl, by simp⟩, ⟨_, rfl, rfl, by simp⟩,
    ⟨_, rfl, rfl, by simp, by simp⟩, ⟨_, rfl, rfl, by simp, by simp⟩⟩
  all_goals exact .setCcr (by simp) ((keepsFlags_logic8 _ s.ccr).cons _)

end Sys2Proof.Machine
end

section
/-! # Arithmetic (41_arithmetic.md): the values and flags of each building block as numbers, and the instructions made of them -/

namespace Sys2Proof.Machine

open Sys2Proof

/-! ## Values -/

theorem add8_value_eq_sum8 (a m : Byte) (k : Bool) (c : Byte) : (add8 a m k c).value = sum8 a m k := by
  simp [add8_value, sum8, BitVec.ofNat_add]

theorem sub8_value_eq_difference8 (a m : Byte) (k : Bool) (c : Byte) : (sub8 a m k c).value = difference8 a m k := by
  rw [sub8_value, difference8]
  apply BitVec.eq_of_toNat_eq
  simp only [BitVec.toNat_ofInt, BitVec.toNat_sub, BitVec.toNat_ofNat]
  omega

theorem add16_value_eq_add (a m : Word) (c : Byte) : (add16 a m c).value = a + m := by
  simp [add16_value, BitVec.ofNat_add]

theorem sub16_value_eq_sub (a m : Word) (c : Byte) : (sub16 a m c).value = a - m := by
  rw [sub16_value]
  apply BitVec.eq_of_toNat_eq
  simp only [BitVec.toNat_ofInt, BitVec.toNat_sub]
  omega

@[simp] theorem sum8_false (a m : Byte) : sum8 a m false = a + m := by simp [sum8]

@[simp] theorem difference8_false (a m : Byte) : difference8 a m false = a - m := by simp [difference8]

/-! ## V as the signed result out of range -/

theorem sub8_overflow_eq_outOfRange8 (a m : Byte) (k : Bool) (c : Byte) :
    ((a.getLsbD 7 != m.getLsbD 7) && (m.getLsbD 7 == (sub8 a m k c).value.getLsbD 7)) =
      outOfRange8 (a.toInt - m.toInt - k.toNat) := by
  have hk := k.toNat_le
  simp only [sub8_value, outOfRange8, BitVec.getLsbD_eq_getElem (show 7 < 8 by decide), byte_sign, BitVec.toNat_ofInt,
    BitVec.toInt_eq_toNat_cond]
  rw [Bool.eq_iff_iff]
  simp only [Bool.and_eq_true, beq_iff_eq, bne_iff_ne, decide_eq_decide, decide_eq_true_iff, ne_eq]
  split <;> split <;> omega

theorem add16_overflow_eq_outOfRange16 (a m : Word) (c : Byte) :
    ((a.getLsbD 15 == m.getLsbD 15) && ((add16 a m c).value.getLsbD 15 != a.getLsbD 15)) =
      outOfRange16 (a.toInt + m.toInt) := by
  simp only [add16_value, outOfRange16, BitVec.getLsbD_eq_getElem (show 15 < 16 by decide), word_sign, BitVec.toNat_ofNat,
    BitVec.toInt_eq_toNat_cond]
  rw [Bool.eq_iff_iff]
  simp only [Bool.and_eq_true, beq_iff_eq, bne_iff_ne, decide_eq_decide, decide_eq_true_iff, ne_eq]
  split <;> split <;> omega

theorem sub16_overflow_eq_outOfRange16 (a m : Word) (c : Byte) :
    ((a.getLsbD 15 != m.getLsbD 15) && (m.getLsbD 15 == (sub16 a m c).value.getLsbD 15)) =
      outOfRange16 (a.toInt - m.toInt) := by
  simp only [sub16_value, outOfRange16, BitVec.getLsbD_eq_getElem (show 15 < 16 by decide), word_sign, BitVec.toNat_ofInt,
    BitVec.toInt_eq_toNat_cond]
  rw [Bool.eq_iff_iff]
  simp only [Bool.and_eq_true, beq_iff_eq, bne_iff_ne, decide_eq_decide, decide_eq_true_iff, ne_eq]
  split <;> split <;> omega

/-! ## The flags a result sets -/

theorem setsAdd8_of_ccr {a m c : Byte} {k : Bool} {t : State} (h : t.ccr = (add8 a m k c).ccr) : SetsAdd8 a m k t := by
  refine ⟨setsNz8_iff.2 ?_, ?_, ?_, ?_⟩
  · simp [State.flag_eq, h, ccrBit_add8, add8_value_eq_sum8]
  · have hlow (n : Nat) : n &&& 15 = n % 16 := Nat.and_two_pow_sub_one_eq_mod n 4
    simp [State.flag_eq, h, ccrBit_add8, hlow]
  · simp only [State.flag_eq, h, ccrBit_add8, reduceCtorEq, if_true, if_false, add8_overflow_eq_outOfRange8]
  · simp [State.flag_eq, h, ccrBit_add8]

theorem setsSub8_of_ccr {a m c : Byte} {k : Bool} {t : State} (h : t.ccr = (sub8 a m k c).ccr) : SetsSub8 a m k t := by
  refine ⟨setsNz8_iff.2 ?_, ?_, ?_⟩
  · simp [State.flag_eq, h, ccrBit_sub8, sub8_value_eq_difference8]
  · simp only [State.flag_eq, h, ccrBit_sub8, reduceCtorEq, if_true, if_false, sub8_overflow_eq_outOfRange8]
  · rw [State.flag_eq, h, ccrBit_sub8_c]

theorem setsAdd16_of_ccr {a m : Word} {c : Byte} {t : State} (h : t.ccr = (add16 a m c).ccr) : SetsAdd16 a m t := by
  refine ⟨setsNz16_iff.2 ?_, ?_, ?_⟩
  · simp [State.flag_eq, h, ccrBit_add16, add16_value_eq_add]
  · simp only [State.flag_eq, h, ccrBit_add16, reduceCtorEq, if_true, if_false, add16_overflow_eq_outOfRange16]
  · simp [State.flag_eq, h, ccrBit_add16]

theorem setsSub16_of_ccr {a m : Word} {c : Byte} {t : State} (h : t.ccr = (sub16 a m c).ccr) : SetsSub16 a m t := by
  refine ⟨setsNz16_iff.2 ?_, ?_, ?_⟩
  · simp [State.flag_eq, h, ccrBit_sub16, sub16_value_eq_sub]
  · simp only [State.flag_eq, h, ccrBit_sub16, reduceCtorEq, if_true, if_false, sub16_overflow_eq_outOfRange16]
  · have hlt : ((a.toNat : Int) - m.toNat < 0) ↔ a.toNat < m.toNat := by omega
    simp [State.flag_eq, h, ccrBit_sub16, hlt]

theorem tst8_eq (v c : Byte) : tst8 v c = putFlag .c false (logic8 v c) := rfl

theorem flags_of_ccr_tst8 {v c : Byte} {t : State} (h : t.ccr = tst8 v c) :
    SetsLogic8 v t ∧ t.flag .c = false := by
  simp [SetsLogic8, setsNz8_iff, State.flag_eq, h, tst8_eq, ccrBit_logic8]

theorem ccrBit_inc8 (v c : Byte) (f : Flag) :
    ccrBit (inc8 v c).ccr f = if f = .v then v == 0x7F else ccrBit (nz8 (v + 1) c) f := by
  simp [inc8]

theorem ccrBit_dec8 (v c : Byte) (f : Flag) :
    ccrBit (dec8 v c).ccr f = if f = .v then v == 0x80 else ccrBit (nz8 (v - 1) c) f := by
  simp [dec8]

theorem byte_beq (v w : Byte) : (v == w) = decide (v.toNat = w.toNat) := by
  rw [Bool.eq_iff_iff]; simp [← BitVec.toNat_inj]

theorem flags_of_ccr_inc8 {v c : Byte} {t : State} (h : t.ccr = (inc8 v c).ccr) :
    SetsNz8 (v + 1) t ∧ t.flag .v = decide (v.toNat = 127) := by
  simp [setsNz8_iff, State.flag_eq, h, ccrBit_inc8, ccrBit_nz8, byte_beq v]

theorem flags_of_ccr_dec8 {v c : Byte} {t : State} (h : t.ccr = (dec8 v c).ccr) :
    SetsNz8 (v - 1) t ∧ t.flag .v = decide (v.toNat = 128) := by
  simp [setsNz8_iff, State.flag_eq, h, ccrBit_dec8, ccrBit_nz8, byte_beq v]

/-- A negation is a subtraction from 0: V at 0x80 alone, C at every value but 0 (41 R153 to R155). -/
theorem flags_of_ccr_neg8 {v c : Byte} {t : State} (h : t.ccr = (neg8 v c).ccr) :
    SetsNz8 (-v) t ∧ t.flag .v = decide (v.toNat = 128) ∧ t.flag .c = decide (v.toNat ≠ 0) := by
  obtain ⟨hnz, hv, hc⟩ := setsSub8_of_ccr h
  refine ⟨by simpa using hnz, hv.trans ?_, hc.trans ?_⟩
  · rw [outOfRange8, decide_eq_decide, BitVec.toInt_eq_toNat_cond v]
    split <;> simp <;> omega
  · simp [Nat.pos_iff_ne_zero]

/-! ## The flags a result keeps -/

theorem keepsFlags_add8 (a m : Byte) (k : Bool) (c : Byte) : KeepsFlags (.flag .h :: partsNzvc) c (add8 a m k c).ccr := by
  intro f hf
  simp only [List.mem_cons, Part.flag.injEq, flag_mem_partsNzvc, not_or] at hf
  simp [ccrBit_add8, hf]

theorem keepsFlags_partsNzv {c c' : Byte} (h : ∀ f, f ≠ .n ∧ f ≠ .z ∧ f ≠ .v → ccrBit c' f = ccrBit c f) :
    KeepsFlags partsNzv c c' :=
  fun f hf => h f (by simpa only [flag_mem_partsNzv, not_or] using hf)

theorem keepsFlags_partsNzvc {c c' : Byte} (h : ∀ f, f ≠ .n ∧ f ≠ .z ∧ f ≠ .v ∧ f ≠ .c → ccrBit c' f = ccrBit c f) :
    KeepsFlags partsNzvc c c' :=
  fun f hf => h f (by simpa only [flag_mem_partsNzvc, not_or] using hf)

theorem keepsFlags_sub8 (a m : Byte) (k : Bool) (c : Byte) : KeepsFlags partsNzvc c (sub8 a m k c).ccr :=
  keepsFlags_partsNzvc fun f hf => by simp [ccrBit_sub8, hf]

theorem keepsFlags_add16 (a m : Word) (c : Byte) : KeepsFlags partsNzvc c (add16 a m c).ccr :=
  keepsFlags_partsNzvc fun f hf => by simp [ccrBit_add16, hf]

theorem keepsFlags_sub16 (a m : Word) (c : Byte) : KeepsFlags partsNzvc c (sub16 a m c).ccr :=
  keepsFlags_partsNzvc fun f hf => by simp [ccrBit_sub16, hf]

theorem keepsFlags_tst8 (v c : Byte) : KeepsFlags partsNzvc c (tst8 v c) :=
  keepsFlags_partsNzvc fun f hf => by simp [tst8_eq, ccrBit_logic8, hf]

theorem keepsFlags_inc8 (v c : Byte) : KeepsFlags partsNzv c (inc8 v c).ccr :=
  keepsFlags_partsNzv fun f hf => by simp [ccrBit_inc8, ccrBit_nz8, hf]

theorem keepsFlags_dec8 (v c : Byte) : KeepsFlags partsNzv c (dec8 v c).ccr :=
  keepsFlags_partsNzv fun f hf => by simp [ccrBit_dec8, ccrBit_nz8, hf]

/-! ## Frames of the operations -/

namespace OnlyChanges

section
variable {parts : List Part} {s t : State}

@[simp] theorem putFlag_iff (g : Flag) (b : Bool) (h : .flag g ∈ parts) :
    OnlyChanges parts s (t.putFlag g b) ↔ OnlyChanges parts s t :=
  iff_of_part h fun p hp => by
    cases p
    case flag f =>
      have hf : f ≠ g := fun e => hp (e ▸ rfl)
      simp [Part.same, State.flag_eq, hf]
    all_goals simp [Part.same]

@[simp] theorem setPc_iff (v : Word) (h : .pc ∈ parts) : OnlyChanges parts s (t.setPc v) ↔ OnlyChanges parts s t :=
  iff_of_part h fun p hp => by cases p <;> simp [Part.same] at hp ⊢

@[simp] theorem drawBit_iff (h : .freeCount ∈ parts) : OnlyChanges parts s (drawBit t).2 ↔ OnlyChanges parts s t :=
  iff_of_part h fun p hp => by cases p <;> simp [Part.same] at hp ⊢

@[simp] theorem drawWord_iff (h : .freeCount ∈ parts) : OnlyChanges parts s (drawWord t).2 ↔ OnlyChanges parts s t :=
  iff_of_part h fun p hp => by cases p <;> simp [Part.same] at hp ⊢

@[simp] theorem divideFlags_iff (q : Word) (v : Bool) (hz : .flag .z ∈ parts) (hv : .flag .v ∈ parts)
    (hc : .flag .c ∈ parts) : OnlyChanges parts s (divideFlags q v t) ↔ OnlyChanges parts s t := by
  simp [divideFlags, hz, hv, hc]

end

end OnlyChanges

theorem onlyChanges_compare8 {parts : List Part} {s : State} {g : Byte → Byte → Byte → Byte} {r : Byte} {o : Opnd8}
    (h : KeepsFlags parts s.ccr (g r (operand8 o s) s.ccr)) : OnlyChanges parts s (compare8 g r o s) :=
  .setCcr (by simp) (by simpa using h)

theorem onlyChanges_compare16 (r : Word) (o : Opnd16) (s : State) : OnlyChanges partsNzvc s (compare16 r o s) :=
  .setCcr (by simp) (by simpa using keepsFlags_sub16 r (operand16 o s) s.ccr)

theorem onlyChanges_modifyMem {parts : List Part} {s : State} {g : Byte → Byte → Res8} {p : Word}
    (h : KeepsFlags parts s.ccr (g (s.byteAt p) s.ccr).ccr) : OnlyChanges (.mem :: parts) s (modifyMem g p s) :=
  (OnlyChanges.memWrite8_iff _ _ (by simp)).2 (.setCcr (by simp) (h.cons .mem))

theorem memOnlyAt_modifyMem (g : Byte → Byte → Res8) (p : Word) (s : State) : MemOnlyAt [p] s (modifyMem g p s) :=
  memOnlyAt_of fun w => by by_cases h : w = p <;> simp [h]

/-! ## The shapes the instructions are made of -/

/-- A pair of compares or bit tests made of `compare8` with one function sets the flags that function sets. -/
theorem testsAccumulator_of {onA onB : Opnd8 → Instr} {s : State} {g : Byte → Byte → Byte → Byte}
    {flags : Byte → Byte → State → Prop} {parts : List Part}
    (hA : ∀ o, exec (onA o) s = .next (compare8 g s.a o s)) (hB : ∀ o, exec (onB o) s = .next (compare8 g s.b o s))
    (hflags : ∀ r m t, t.ccr = g r m s.ccr → flags r m t) (hkeeps : ∀ r m, KeepsFlags parts s.ccr (g r m s.ccr)) :
    TestsAccumulator onA onB s flags parts :=
  fun o =>
    ⟨⟨_, hA o, hflags _ _ _ (by simp), onlyChanges_compare8 (hkeeps _ _)⟩,
      ⟨_, hB o, hflags _ _ _ (by simp), onlyChanges_compare8 (hkeeps _ _)⟩⟩

/-- The three forms of a read-modify-write operation with one function do what that function says of the byte and of the
CCR. -/
theorem modifiesByte_of {onA onB : Instr} {onMem : EaNoDir → Instr} {s : State} {g : Byte → Byte → Res8}
    {result : Byte → Byte} {flags : Byte → State → Prop} {parts : List Part}
    (hA : exec onA s = .next (modifyA g s)) (hB : exec onB s = .next (modifyB g s))
    (hMem : ∀ m, exec (onMem m) s = .next (modifyMem g (ea m.toEa s) s))
    (hvalue : ∀ v, (g v s.ccr).value = result v) (hflags : ∀ v t, t.ccr = (g v s.ccr).ccr → flags v t)
    (hkeeps : ∀ v, KeepsFlags parts s.ccr (g v s.ccr).ccr) : ModifiesByte onA onB onMem s result flags parts :=
  ⟨⟨_, hA, by simp [hvalue], hflags _ _ (by simp), onlyChanges_modifyA (hkeeps _)⟩,
    ⟨_, hB, by simp [hvalue], hflags _ _ (by simp), onlyChanges_modifyB (hkeeps _)⟩,
    fun m => ⟨_, hMem m, by simp [hvalue], hflags _ _ (by simp), onlyChanges_modifyMem (hkeeps _),
      memOnlyAt_modifyMem g _ s⟩⟩

/-! ## The additions, subtractions, compares and tests -/

/-- Settles O35: each is `add8`; aba writes A as `updateA` does, with B for its operand. -/
theorem byteAdditions : Obligations.ByteAdditions := by
  intro s
  refine ⟨⟨_, rfl, ?_, setsAdd8_of_ccr (c := s.ccr) rfl, ?_⟩, ?_, ?_⟩
  · simp [add8_value_eq_sum8]
  · exact .setCcr (by simp) ((keepsFlags_add8 s.a s.b false s.ccr).cons .a)
  · exact updatesAccumulator_of (fun _ => rfl) (fun _ => rfl) (fun r m => by simp [add8_value_eq_sum8])
      (fun _ _ _ => setsAdd8_of_ccr) fun r m => keepsFlags_add8 r m false s.ccr
  · exact updatesAccumulator_of (fun _ => rfl) (fun _ => rfl) (fun r m => add8_value_eq_sum8 r m (s.flag .c) s.ccr)
      (fun _ _ _ => setsAdd8_of_ccr) fun r m => keepsFlags_add8 r m (s.flag .c) s.ccr

/-- Settles O36: each is `sub8`, which keeps H. -/
theorem byteSubtractions : Obligations.ByteSubtractions := by
  intro s
  refine ⟨⟨_, rfl, ?_, setsSub8_of_ccr (c := s.ccr) rfl, ?_⟩, ?_, ?_⟩
  · simp [sub8_value_eq_difference8]
  · exact .setCcr (by simp) ((keepsFlags_sub8 s.a s.b false s.ccr).cons .a)
  · exact updatesAccumulator_of (fun _ => rfl) (fun _ => rfl) (fun r m => by simp [sub8_value_eq_difference8])
      (fun _ _ _ => setsSub8_of_ccr) fun r m => keepsFlags_sub8 r m false s.ccr
  · exact updatesAccumulator_of (fun _ => rfl) (fun _ => rfl) (fun r m => sub8_value_eq_difference8 r m (s.flag .c) s.ccr)
      (fun _ _ _ => setsSub8_of_ccr) fun r m => keepsFlags_sub8 r m (s.flag .c) s.ccr

/-- Settles O37: the compares keep the CCR of `sub8` alone, the tests that of `tst8`. -/
theorem byteComparesAndTests : Obligations.ByteComparesAndTests := by
  intro s
  have hframe (v : Byte) (t : State) (h : OnlyChanges partsNzvc s t) : OnlyChanges partsNzvc s (t.setCcr (tst8 v s.ccr)) :=
    h.setCcr (keepsFlags_tst8 v s.ccr)
  exact ⟨⟨_, rfl, setsSub8_of_ccr (c := s.ccr) rfl, .setCcr (by simp) (keepsFlags_sub8 s.a s.b false s.ccr)⟩,
    testsAccumulator_of (fun _ => rfl) (fun _ => rfl) (fun _ _ _ => setsSub8_of_ccr)
      fun r m => keepsFlags_sub8 r m false s.ccr,
    ⟨_, rfl, and_assoc.1 ⟨flags_of_ccr_tst8 rfl, hframe s.a s (by simp)⟩⟩,
    ⟨_, rfl, and_assoc.1 ⟨flags_of_ccr_tst8 rfl, hframe s.b s (by simp)⟩⟩,
    fun m => ⟨_, rfl, and_assoc.1 ⟨flags_of_ccr_tst8 rfl, hframe _ _ (by simp)⟩⟩⟩

/-- Settles O38: addd and subd are `add16` and `sub16`, the compares the CCR of `sub16` alone. -/
theorem wordArithmetic : Obligations.WordArithmetic := by
  intro o s
  have hcompare (r : Word) : SetsSub16 r (operand16 o s) (compare16 r o s) := setsSub16_of_ccr (compare16_ccr s r o)
  exact ⟨⟨_, rfl, by simp [add16_value_eq_add], setsAdd16_of_ccr (updateD_ccr s add16 o),
      onlyChanges_updateD (keepsFlags_add16 _ _ _)⟩,
    ⟨_, rfl, by simp [sub16_value_eq_sub], setsSub16_of_ccr (updateD_ccr s sub16 o),
      onlyChanges_updateD (keepsFlags_sub16 _ _ _)⟩,
    ⟨_, rfl, hcompare s.d, onlyChanges_compare16 s.d o s⟩, ⟨_, rfl, hcompare s.x, onlyChanges_compare16 s.x o s⟩,
    ⟨_, rfl, hcompare s.y, onlyChanges_compare16 s.y o s⟩⟩

/-- Settles O39: the three forms of `inc8`, of `dec8` and of `neg8`. -/
theorem incrementsDecrementsNegations : Obligations.IncrementsDecrementsNegations := by
  intro s
  refine ⟨?_, ?_, ?_⟩
  · exact modifiesByte_of rfl rfl (fun _ => rfl) (fun _ => rfl) (fun _ _ => flags_of_ccr_inc8)
      fun v => keepsFlags_inc8 v s.ccr
  · exact modifiesByte_of rfl rfl (fun _ => rfl) (fun _ => rfl) (fun _ _ => flags_of_ccr_dec8)
      fun v => keepsFlags_dec8 v s.ccr
  · exact modifiesByte_of rfl rfl (fun _ => rfl) (fun v => by simp [neg8, sub8_value_eq_difference8])
      (fun _ _ => flags_of_ccr_neg8) fun v => keepsFlags_sub8 0x00 v false s.ccr

/-! ## The index registers and SP -/

theorem zext16_toNat (v : Byte) : (zext16 v).toNat = v.toNat := by simp [zext16]; omega

/-- Settles O40: each writes one register, and Z where the statement names it. -/
theorem indexArithmetic : Obligations.IndexArithmetic := by
  intro s
  exact ⟨⟨_, rfl, by simp [BitVec.toNat_add, zext16_toNat], by simp⟩,
    ⟨_, rfl, by simp [BitVec.toNat_add, zext16_toNat], by simp⟩,
    ⟨_, rfl, rfl, by simp, by simp⟩, ⟨_, rfl, rfl, by simp, by simp⟩, ⟨_, rfl, rfl, by simp, by simp⟩,
    ⟨_, rfl, rfl, by simp, by simp⟩, ⟨_, rfl, rfl, by simp⟩, ⟨_, rfl, rfl, by simp⟩⟩

/-! ## Decimal adjust -/

/-- The test of the decimal adjust for the upper correction, which is also its C (41 R159). -/
theorem daaCorrection_carry (a : Byte) (c h : Bool) :
    (daaCorrection a c h).2 = decide (c = true ∨ 9 < a.toNat / 16 ∨ (9 ≤ a.toNat / 16 ∧ 9 < a.toNat % 16)) := by
  simp only [daaCorrection]
  split <;> simp_all [or_assoc]

/-- The two corrections share no bit, so the correction byte is their sum (41 R159). -/
theorem daaCorrection_byte (a : Byte) (c h : Bool) :
    (daaCorrection a c h).1 =
      (if h = true ∨ 9 < a.toNat % 16 then 0x06 else 0x00) +
        (if c = true ∨ 9 < a.toNat / 16 ∨ (9 ≤ a.toNat / 16 ∧ 9 < a.toNat % 16) then 0x60 else 0x00) := by
  simp only [daaCorrection, Bool.or_eq_true, Bool.and_eq_true, decide_eq_true_iff, or_assoc, gt_iff_lt, ge_iff_le]
  split <;> split <;> simp

theorem ccrBit_daa8 (a : Byte) (v : Bool) (c : Byte) (f : Flag) :
    ccrBit (daa8 a v c).ccr f =
      if f = .v then v else if f = .c then (daaCorrection a (ccrBit c .c) (ccrBit c .h)).2
      else ccrBit (nz8 (daa8 a v c).value c) f := by
  simp [daa8]

theorem daa8_value (a : Byte) (v : Bool) (c : Byte) :
    (daa8 a v c).value =
      a + (if ccrBit c .h = true ∨ 9 < a.toNat % 16 then 0x06 else 0x00) +
        (if ccrBit c .c = true ∨ 9 < a.toNat / 16 ∨ (9 ≤ a.toNat / 16 ∧ 9 < a.toNat % 16) then 0x60 else 0x00) := by
  rw [daa8, daaCorrection_byte, BitVec.add_assoc]

theorem ccrBit_daa8_c (a : Byte) (v : Bool) (c : Byte) :
    ccrBit (daa8 a v c).ccr .c =
      decide (ccrBit c .c = true ∨ 9 < a.toNat / 16 ∨ (9 ≤ a.toNat / 16 ∧ 9 < a.toNat % 16)) := by
  rw [ccrBit_daa8, if_neg (by decide), if_pos rfl, daaCorrection_carry]

theorem keepsFlags_daa8 (a : Byte) (v : Bool) (c : Byte) : KeepsFlags partsNzvc c (daa8 a v c).ccr :=
  keepsFlags_partsNzvc fun f hf => by simp [ccrBit_daa8, ccrBit_nz8, hf]

/-- Settles O41: A and the CCR are those of `daa8`, with V the drawn bit. -/
theorem decimalAdjust : Obligations.DecimalAdjust := by
  intro s
  exact ⟨_, rfl, daa8_value s.a (drawBit s).1 s.ccr, setsNz8_iff.2 (by simp [ccrBit_daa8, ccrBit_nz8]),
    ccrBit_daa8_c s.a (drawBit s).1 s.ccr,
    .setCcr (by simp) (((keepsFlags_daa8 s.a (drawBit s).1 s.ccr).cons .freeCount).cons .a)⟩

/-! ## Packed decimal -/

theorem bcd_toNat {n : Nat} (h : n < 100) : (bcd n).toNat = n / 10 * 16 + n % 10 := by
  simp only [bcd, BitVec.toNat_ofNat]
  omega

theorem sum8_toNat (a m : Byte) (k : Bool) : (sum8 a m k).toNat = (a.toNat + m.toNat + k.toNat) % 256 := by
  simp [← add8_value_eq_sum8 a m k 0, add8_value]

/-- Two packed-decimal bytes added digit by digit: u units with x carried out of them, e tens, and y hundreds. -/
theorem bcd_add_digits {m n : Nat} {k : Bool} (hm : m < 100) (hn : n < 100) :
    ∃ x y e u : Nat, x ≤ 1 ∧ y ≤ 1 ∧ e ≤ 9 ∧ u ≤ 9 ∧ m + n + k.toNat = 100 * y + (10 * e + u) ∧
      (bcd m).toNat + (bcd n).toNat + k.toNat + 6 * x = 160 * y + 16 * e + u ∧
      (bcd m).toNat % 16 + (bcd n).toNat % 16 + k.toNat = 10 * x + u := by
  have hk := k.toNat_le
  rw [bcd_toNat hm, bcd_toNat hn]
  obtain ⟨l, hl⟩ : ∃ l, l = m % 10 + n % 10 + k.toNat := ⟨_, rfl⟩
  obtain ⟨h, hh⟩ : ∃ h, h = m / 10 + n / 10 + l / 10 := ⟨_, rfl⟩
  refine ⟨l / 10, h / 10, h % 10, l % 10, ?_⟩
  omega

/-- After the sum of two packed-decimal bytes with its H and C, daa leaves the packed-decimal sum, the hundred in C: the lower
correction is made at a carry out of the units, the upper one at a hundred. -/
theorem daa_after_bcd_addition {s : State} {m n : Nat} {k : Bool} (hm : m < 100) (hn : n < 100)
    (ha : s.a = sum8 (bcd m) (bcd n) k) (hflags : SetsAdd8 (bcd m) (bcd n) k s) :
    ∃ t, exec .daa s = .next t ∧ t.a = bcd ((m + n + k.toNat) % 100) ∧
      t.flag .c = decide (100 ≤ m + n + k.toNat) := by
  obtain ⟨t, ht, hta, -, htc, -⟩ := decimalAdjust s
  obtain ⟨-, hh, -, hc⟩ := hflags
  obtain ⟨x, y, e, u, hx, hy, he, hu, hsum, hraw, hunits⟩ := bcd_add_digits (k := k) hm hn
  have hsa : s.a.toNat = ((bcd m).toNat + (bcd n).toNat + k.toNat) % 256 := by rw [ha, sum8_toNat]
  have hlow : (s.flag .h = true ∨ 9 < s.a.toNat % 16) ↔ x = 1 := by
    rw [hh, hsa, hunits, decide_eq_true_iff]
    omega
  have hhigh : (s.flag .c = true ∨ 9 < s.a.toNat / 16 ∨ (9 ≤ s.a.toNat / 16 ∧ 9 < s.a.toNat % 16)) ↔ y = 1 := by
    rw [hc, hsa, decide_eq_true_iff]
    omega
  have hmod : (100 * y + (10 * e + u)) % 100 = 10 * e + u := by omega
  have hhundred : 100 ≤ 100 * y + (10 * e + u) ↔ y = 1 := by omega
  simp only [hlow, hhigh] at hta htc
  rw [hsum, hmod, decide_eq_decide.2 hhundred]
  refine ⟨t, ht, hta.trans (BitVec.eq_of_toNat_eq ?_), htc⟩
  rw [bcd_toNat (by omega), BitVec.toNat_add, BitVec.toNat_add, hsa]
  split <;> split <;> simp <;> omega

/-- Settles O42: each addition leaves the sum with its H and C, and daa adjusts them. -/
theorem decimalAddition : Obligations.DecimalAddition := by
  intro s m n hm hn hsa
  obtain ⟨⟨w, hw, hwa, hwf, -⟩, hadda, hadca⟩ := byteAdditions s
  obtain ⟨u, hu, hua, huf, -⟩ := (hadda (.imm (bcd n))).1
  obtain ⟨v, hv, hva, hvf, -⟩ := (hadca (.imm (bcd n))).1
  rw [hsa] at hwa hwf hua huf hva hvf
  refine ⟨⟨u, ?_⟩, ⟨v, ?_⟩, fun hsb => ⟨w, ?_⟩⟩
  · simpa [hu] using daa_after_bcd_addition hm hn (by simpa using hua) huf
  · simpa [hv] using daa_after_bcd_addition hm hn hva hvf
  · rw [hsb] at hwa hwf
    simpa [hw] using daa_after_bcd_addition hm hn (by simpa using hwa) hwf

/-! ## Multiply and divide -/

theorem loByte_sign (v : Word) : v[7] = decide (128 ≤ (loByte v).toNat) := by
  rw [← byte_sign]; simp [loByte]

theorem exec_idiv_of_x_ne {s : State} (h : s.x ≠ 0#16) : exec .idiv s = .next (divideInteger s) :=
  congrArg Host.Outcome.next (if_neg h)

theorem exec_idiv_of_x_eq {s : State} (h : s.x = 0#16) : exec .idiv s = .next (divideByZero s) :=
  congrArg Host.Outcome.next (if_pos h)

theorem exec_fdiv_of_x_eq {s : State} (h : s.x = 0#16) : exec .fdiv s = .next (divideByZero s) :=
  congrArg Host.Outcome.next (if_pos h)

theorem exec_fdiv_of_x_le {s : State} (h : s.x ≠ 0#16) (hle : s.x.toNat ≤ s.d.toNat) :
    exec .fdiv s = .next (divideOverflow s) :=
  congrArg Host.Outcome.next ((if_neg h).trans (if_pos hle))

theorem exec_fdiv_of_d_lt {s : State} (h : s.d.toNat < s.x.toNat) : exec .fdiv s = .next (divideFraction s) :=
  have hne : s.x ≠ 0#16 := fun e => by simp [e] at h
  congrArg Host.Outcome.next ((if_neg hne).trans (if_neg (by omega)))

/-- The fallback of a division by zero (41 R169, R170). -/
theorem divideByZero_spec (s : State) :
    (divideByZero s).x = 0#16 ∧ (divideByZero s).flag .z = true ∧ (divideByZero s).flag .c = decide (s.d ≠ 0#16) ∧
      OnlyChanges [.x, .flag .z, .flag .c] s (divideByZero s) := by
  refine ⟨by simp, by simp [State.flag_eq], ?_, by simp [divideByZero]⟩
  rw [Bool.eq_iff_iff]
  simp [State.flag_eq]

/-- The quotient and the remainder of a division of words are words (41 R169). -/
theorem divideInteger_spec {s : State} (hx : s.x ≠ 0#16) :
    (divideInteger s).x.toNat = s.d.toNat / s.x.toNat ∧ (divideInteger s).d.toNat = s.d.toNat % s.x.toNat ∧
      (divideInteger s).flag .z = decide (s.d.toNat < s.x.toNat) ∧ (divideInteger s).flag .v = false ∧
      (divideInteger s).flag .c = false ∧
      OnlyChanges [.a, .b, .x, .flag .z, .flag .v, .flag .c] s (divideInteger s) := by
  have hpos : s.x.toNat ≠ 0 := fun e => hx (BitVec.eq_of_toNat_eq e)
  have hq : s.d.toNat / s.x.toNat % 65536 = s.d.toNat / s.x.toNat :=
    Nat.mod_eq_of_lt (lt_of_le_of_lt (Nat.div_le_self _ _) s.d.isLt)
  have hr : s.d.toNat % s.x.toNat % 65536 = s.d.toNat % s.x.toNat :=
    Nat.mod_eq_of_lt (lt_of_le_of_lt (Nat.mod_le _ _) s.d.isLt)
  refine ⟨by simp [hq], by simp [hr], ?_, by simp [State.flag_eq], by simp [State.flag_eq], by simp [divideInteger]⟩
  simp [State.flag_eq, word_zero, hq, Nat.div_eq_zero_iff, hpos]

/-- Below X the quotient of D shifted up by 16 bits is a word, as the remainder is (41 R170). -/
theorem divideFraction_spec {s : State} (hlt : s.d.toNat < s.x.toNat) :
    (divideFraction s).x.toNat = s.d.toNat * 65536 / s.x.toNat ∧
      (divideFraction s).d.toNat = s.d.toNat * 65536 % s.x.toNat ∧
      (divideFraction s).flag .z = ((divideFraction s).x == 0) ∧ (divideFraction s).flag .v = false ∧
      (divideFraction s).flag .c = false ∧
      OnlyChanges [.a, .b, .x, .flag .z, .flag .v, .flag .c] s (divideFraction s) := by
  have hq : s.d.toNat * 65536 / s.x.toNat < 65536 := Nat.div_lt_of_lt_mul (by omega)
  have hr : s.d.toNat * 65536 % s.x.toNat < 65536 := (Nat.mod_lt _ (by omega)).trans s.x.isLt
  exact ⟨by simp [Nat.mod_eq_of_lt hq], by simp [Nat.mod_eq_of_lt hr], by simp [State.flag_eq], by simp [State.flag_eq],
    by simp [State.flag_eq], by simp [divideFraction]⟩

/-- On overflow Z is of the drawn quotient (41 R170). -/
theorem divideOverflow_spec (s : State) :
    (divideOverflow s).flag .z = ((divideOverflow s).x == 0) ∧ (divideOverflow s).flag .v = true ∧
      (divideOverflow s).flag .c = false ∧
      OnlyChanges [.a, .b, .x, .flag .z, .flag .v, .flag .c, .freeCount] s (divideOverflow s) :=
  ⟨by simp [State.flag_eq], by simp [State.flag_eq], by simp [State.flag_eq], by simp [divideOverflow]⟩

/-- Settles O43: the product of two bytes fits in D, and idiv is `divideInteger` or `divideByZero`. -/
theorem multiplyAndIntegerDivide : Obligations.MultiplyAndIntegerDivide := by
  intro s
  refine ⟨⟨_, rfl, ?_, by simp [loByte_sign], by simp⟩, fun hx => ⟨_, exec_idiv_of_x_ne hx, divideInteger_spec hx⟩,
    fun hx => ⟨_, exec_idiv_of_x_eq hx, divideByZero_spec s⟩⟩
  have hp : s.a.toNat * s.b.toNat ≤ 255 * 255 := Nat.mul_le_mul (by omega) (by omega)
  exact (show _ = s.a.toNat * s.b.toNat % 65536 by simp).trans (Nat.mod_eq_of_lt (by omega))

/-- Settles O44: fdiv is `divideFraction`, `divideByZero` or `divideOverflow`. -/
theorem fractionalDivide : Obligations.FractionalDivide :=
  fun s => ⟨fun hlt => ⟨_, exec_fdiv_of_d_lt hlt, divideFraction_spec hlt⟩,
    fun hx => ⟨_, exec_fdiv_of_x_eq hx, divideByZero_spec s⟩,
    fun hx hle => ⟨_, exec_fdiv_of_x_le hx hle, divideOverflow_spec s⟩⟩

/-! ## A compare and a branch -/

/-- A branch adds the signed offset to PC, modulo 65536 (30_encoding.md R82). -/
theorem branchTarget_toNat (rr : Byte) (s : State) :
    ((branchTarget rr s).toNat : Int) = (s.pc.toNat + rr.toInt) % 65536 := by
  have hext : (sext16 rr).toInt = rr.toInt := BitVec.toInt_signExtend_of_le (by decide)
  rw [BitVec.toInt_eq_toNat_cond] at hext
  simp only [branchTarget, BitVec.toNat_add]
  split at hext <;> omega

/-- An instruction that is `branchIf` of a condition is a branch on it (44 R203 to R218). -/
theorem branches_of {i : Byte → Instr} {s : State} {k taken : Bool} (h : ∀ rr, exec (i rr) s = .next (branchIf k rr s))
    (hk : k = taken) : Branches i s taken := by
  subst hk
  intro rr
  cases k
  · exact ⟨_, h rr, rfl, by simp [branchIf]⟩
  · exact ⟨_, h rr, branchTarget_toNat rr s, by simp [branchIf]⟩

section
variable {a m : Byte} {t : State}

theorem SetsSub8.c_eq (h : SetsSub8 a m false t) : t.flag .c = decide (a.toNat < m.toNat) := h.2.2

theorem SetsSub8.z_eq (h : SetsSub8 a m false t) : t.flag .z = decide (a = m) := by
  obtain ⟨⟨-, hz⟩, -⟩ := h
  rw [hz, decide_eq_decide, difference8_false]
  bv_omega

/-- N and V differ exactly when the signed difference is negative: V says that N is not its sign. -/
theorem SetsSub8.n_xor_v_eq (h : SetsSub8 a m false t) : (t.flag .n ^^ t.flag .v) = decide (a.toInt < m.toInt) := by
  obtain ⟨⟨hn, -⟩, hv, -⟩ := h
  rw [hn, hv, difference8_false, outOfRange8, Bool.eq_iff_iff, Bool.xor_iff_ne]
  simp only [BitVec.toNat_sub, BitVec.toInt_eq_toNat_cond, ne_eq, decide_eq_decide, decide_eq_true_iff, Bool.toNat_false]
  split <;> split <;> omega

end

/-- Settles O52: C, Z and N XOR V after the compare are the orders of the two bytes, and each branch is on those. -/
theorem compareThenBranch : Obligations.CompareThenBranch := by
  intro o s t ht
  obtain ⟨u, hu, hflags, -⟩ := ((byteComparesAndTests s).2.1 o).1
  obtain rfl : u = t := Host.Outcome.next.inj (hu.symm.trans ht)
  have hc := hflags.c_eq
  have hz := hflags.z_eq
  have hlt := hflags.n_xor_v_eq
  refine ⟨branches_of (fun _ => rfl) ?bhi, branches_of (fun _ => rfl) ?bls, branches_of (fun _ => rfl) ?bcc,
    branches_of (fun _ => rfl) hc, branches_of (fun _ => rfl) ?bne, branches_of (fun _ => rfl) hz,
    branches_of (fun _ => rfl) ?bge, branches_of (fun _ => rfl) hlt, branches_of (fun _ => rfl) ?bgt,
    branches_of (fun _ => rfl) ?ble⟩
  all_goals rw [Bool.eq_iff_iff]
  case bcc | bne | bge => simp [hc, hz, hlt]
  case bhi | bls => simp [hc, hz, ← BitVec.toNat_inj]; omega
  case bgt | ble => simp [hz, hlt, ← BitVec.toInt_inj]; omega

end Sys2Proof.Machine
end

section
/-! # Logic, shifts and rotates (42_logic_shift.md): the flags each sets and keeps, the instructions made of them, and that a
rotate undoes the other -/

namespace Sys2Proof.Machine

open Sys2Proof

/-! ## The flags a result sets and keeps -/

/-- A complement sets the flags of `logic8`, and C (42 R179 to R181). -/
theorem flags_of_ccr_com8 {v c : Byte} {t : State} (h : t.ccr = (com8 v c).ccr) :
    SetsLogic8 (~~~v) t ∧ t.flag .c = true := by
  simp [SetsLogic8, setsNz8_iff, State.flag_eq, h, com8_eq, ccrBit_logic8]

theorem setsShift8_of_ccr {r c : Byte} {co : Bool} {t : State} (h : t.ccr = shiftFlags8 r co c) : SetsShift8 r co t := by
  simp [SetsShift8, setsNz8_iff, State.flag_eq, h, ccrBit_shiftFlags8]

theorem setsShift16_of_ccr {r : Word} {c : Byte} {co : Bool} {t : State} (h : t.ccr = shiftFlags16 r co c) :
    SetsShift16 r co t := by
  simp [SetsShift16, setsNz16_iff, State.flag_eq, h, ccrBit_shiftFlags16]

theorem keepsFlags_com8 (v c : Byte) : KeepsFlags partsNzvc c (com8 v c).ccr :=
  keepsFlags_partsNzvc fun f hf => by simp [com8_eq, ccrBit_logic8, hf]

theorem keepsFlags_shiftFlags8 (r : Byte) (co : Bool) (c : Byte) : KeepsFlags partsNzvc c (shiftFlags8 r co c) :=
  keepsFlags_partsNzvc fun f hf => by simp [ccrBit_shiftFlags8, hf]

theorem keepsFlags_shiftFlags16 (r : Word) (co : Bool) (c : Byte) : KeepsFlags partsNzvc c (shiftFlags16 r co c) :=
  keepsFlags_partsNzvc fun f hf => by simp [ccrBit_shiftFlags16, hf]

/-! ## The shapes the instructions are made of -/

/-- A pair of instructions that write `op` of the accumulator and the operand, with `logic8` of it. -/
theorem updatesAccumulator_of_logic8 {onA onB : Opnd8 → Instr} {s : State} {op : Byte → Byte → Byte}
    (hA : ∀ o, exec (onA o) s = .next (updateA (fun r m c => ⟨op r m, logic8 (op r m) c⟩) o s))
    (hB : ∀ o, exec (onB o) s = .next (updateB (fun r m c => ⟨op r m, logic8 (op r m) c⟩) o s)) :
    UpdatesAccumulator onA onB s op (fun r m t => SetsLogic8 (op r m) t) partsNzv :=
  updatesAccumulator_of hA hB (fun _ _ => rfl) (fun _ _ _ => setsLogic8_of_ccr) fun r m => keepsFlags_logic8 (op r m) s.ccr

/-- The three forms of a shift or a rotate that makes `result` of a byte and shifts the bit `out` of it into C. -/
theorem modifiesByte_of_shift {onA onB : Instr} {onMem : EaNoDir → Instr} {s : State} {g : Byte → Byte → Res8}
    {result : Byte → Byte} {out : Byte → Bool}
    (hA : exec onA s = .next (modifyA g s)) (hB : exec onB s = .next (modifyB g s))
    (hMem : ∀ m, exec (onMem m) s = .next (modifyMem g (ea m.toEa s) s))
    (hg : ∀ v, g v s.ccr = ⟨result v, shiftFlags8 (result v) (out v) s.ccr⟩) :
    ModifiesByte onA onB onMem s result (fun v t => SetsShift8 (result v) (out v) t) partsNzvc := by
  refine modifiesByte_of hA hB hMem (fun v => ?_) (fun v t h => ?_) fun v => ?_
  · rw [hg]
  · rw [hg] at h; exact setsShift8_of_ccr h
  · rw [hg]; exact keepsFlags_shiftFlags8 (result v) (out v) s.ccr

/-- All that a shift of D does: the value r to D and the bit co to C. -/
theorem shiftD_spec (r : Word) (co : Bool) (s : State) :
    ((s.setD r).setCcr (shiftFlags16 r co s.ccr)).d = r ∧
      SetsShift16 r co ((s.setD r).setCcr (shiftFlags16 r co s.ccr)) ∧
      OnlyChanges (.a :: .b :: partsNzvc) s ((s.setD r).setCcr (shiftFlags16 r co s.ccr)) :=
  ⟨State.setD_d s r, setsShift16_of_ccr rfl,
    .setCcr (by simp) (((keepsFlags_shiftFlags16 r co s.ccr).cons .b).cons .a)⟩

/-! ## A rotate undoes the other -/

/-- On the nine bits of C and a byte: a rotate left shifts bit 7 out, and a rotate right with that bit in C gives the byte and C
back. -/
theorem rotateThroughCarry_right_left (v : Byte) (k : Bool) :
    (((v <<< 1) ||| BitVec.ofNat 8 k.toNat) >>> 1) ||| BitVec.ofNat 8 ((v.getLsbD 7).toNat * 128) = v ∧
      ((v <<< 1) ||| BitVec.ofNat 8 k.toNat).getLsbD 0 = k := by
  revert v k; decide

/-- On the nine bits of C and a byte: a rotate right shifts bit 0 out, and a rotate left with that bit in C gives the byte and C
back. -/
theorem rotateThroughCarry_left_right (v : Byte) (k : Bool) :
    (((v >>> 1) ||| BitVec.ofNat 8 (k.toNat * 128)) <<< 1) ||| BitVec.ofNat 8 (v.getLsbD 0).toNat = v ∧
      ((v >>> 1) ||| BitVec.ofNat 8 (k.toNat * 128)).getLsbD 7 = k := by
  revert v k; decide

/-- A rotate right undoes a rotate left (42 R191, R194). -/
theorem ror8_rol8 (v c : Byte) :
    (ror8 (rol8 v c).value (rol8 v c).ccr).value = v ∧
      ccrBit (ror8 (rol8 v c).value (rol8 v c).ccr).ccr .c = ccrBit c .c := by
  obtain ⟨hvalue, hcarry⟩ := rotateThroughCarry_right_left v (ccrBit c .c)
  simp only [ror8_eq, rol8_eq, ccrBit_shiftFlags8, reduceCtorEq, if_true, if_false]
  exact ⟨hvalue, hcarry⟩

/-- A rotate left undoes a rotate right (42 R192, R195). -/
theorem rol8_ror8 (v c : Byte) :
    (rol8 (ror8 v c).value (ror8 v c).ccr).value = v ∧
      ccrBit (rol8 (ror8 v c).value (ror8 v c).ccr).ccr .c = ccrBit c .c := by
  obtain ⟨hvalue, hcarry⟩ := rotateThroughCarry_left_right v (ccrBit c .c)
  simp only [ror8_eq, rol8_eq, ccrBit_shiftFlags8, reduceCtorEq, if_true, if_false]
  exact ⟨hvalue, hcarry⟩

/-! ## The obligations -/

/-- Settles O45: each writes its bitwise result with the CCR of `logic8`; the bit tests keep that CCR alone. -/
theorem logicAndBitTests : Obligations.LogicAndBitTests := by
  intro s
  exact ⟨updatesAccumulator_of_logic8 (fun _ => rfl) fun _ => rfl, updatesAccumulator_of_logic8 (fun _ => rfl) fun _ => rfl,
    updatesAccumulator_of_logic8 (fun _ => rfl) fun _ => rfl,
    testsAccumulator_of (fun _ => rfl) (fun _ => rfl) (fun _ _ _ => setsLogic8_of_ccr)
      fun r m => keepsFlags_logic8 (r &&& m) s.ccr⟩

/-- Settles O46: the three forms of `com8`, whose `0xFF - v` is the complement. -/
theorem complements : Obligations.Complements := by
  intro s
  exact modifiesByte_of rfl rfl (fun _ => rfl) (fun v => by rw [com8_eq]) (fun _ _ => flags_of_ccr_com8)
    fun v => keepsFlags_com8 v s.ccr

/-- Settles O47: the model's arithmetic on the byte or on D is a shift of its bits. -/
theorem shifts : Obligations.Shifts := by
  intro s
  refine ⟨modifiesByte_of_shift rfl rfl (fun _ => rfl) fun v => asl8_eq v s.ccr,
    modifiesByte_of_shift rfl rfl (fun _ => rfl) fun v => asr8_eq v s.ccr,
    modifiesByte_of_shift rfl rfl (fun _ => rfl) fun v => lsr8_eq v s.ccr, ⟨_, rfl, ?_⟩, ⟨_, rfl, ?_⟩⟩
  · rw [asl16_eq]; exact shiftD_spec (s.d <<< 1) (s.d.getLsbD 15) s
  · rw [lsr16_eq]; exact shiftD_spec (s.d >>> 1) (s.d.getLsbD 0) s

/-- Settles O48: each is a shift with the old C in the free bit, and a rotate back returns that C and the bit shifted out. -/
theorem rotates : Obligations.Rotates := by
  intro s
  exact ⟨modifiesByte_of_shift rfl rfl (fun _ => rfl) fun v => rol8_eq v s.ccr,
    modifiesByte_of_shift rfl rfl (fun _ => rfl) fun v => ror8_eq v s.ccr,
    ⟨_, _, rfl, rfl, ror8_rol8 s.a s.ccr⟩, ⟨_, _, rfl, rfl, rol8_ror8 s.b s.ccr⟩⟩

end Sys2Proof.Machine
end

section
/-! # Bit operations and bit branches (43_bit_manipulation.md): what a bitwise change of a byte and a branch on masked bits do -/

namespace Sys2Proof.Machine

open Sys2Proof

/-! ## The flags and the frame of a bit branch -/

/-- The flags of a bit branch with the model's `BRBIT_FLAGS`, which is doc (43 R201, R202; log entry 9). -/
theorem bitBranchFlags_brbitFlags (r c : Byte) : bitBranchFlags Config.brbitFlags r c = logic8 r c := rfl

@[simp] theorem OnlyChanges.branchIf_iff {parts : List Part} {s t : State} (k : Bool) (rr : Byte) (h : .pc ∈ parts) :
    OnlyChanges parts s (branchIf k rr t) ↔ OnlyChanges parts s t := by
  cases k <;> simp [branchIf, h]

theorem onlyChanges_bitBranch (test : Byte → Bool) (m : EaNoExt) (mask rr : Byte) (s : State) :
    OnlyChanges (.pc :: partsNzv) s (bitBranch test m mask rr s) := by
  have hread : OnlyChanges (.pc :: partsNzv) s (memRead8 (ea m.toEa s) s).2 := by simp
  have hflags := (keepsFlags_logic8 (s.byteAt (ea m.toEa s) &&& mask) s.ccr).cons .pc
  exact (OnlyChanges.branchIf_iff _ _ (by simp)).2 (hread.setCcr (by simpa [bitBranchFlags_brbitFlags] using hflags))

/-! ## The shapes the instructions are made of -/

/-- An instruction that writes `op` of the byte at p, with `logic8` of it, does only that (43 R199, R200). -/
theorem changesByteAt_of_logic8 {i : Instr} {s : State} {op : Byte → Byte} {p : Word}
    (h : exec i s = .next (modifyMem (fun v c => ⟨op v, logic8 (op v) c⟩) p s)) :
    ∃ t, exec i s = .next t ∧ t.byteAt p = op (s.byteAt p) ∧ SetsLogic8 (op (s.byteAt p)) t ∧
      OnlyChanges (.mem :: partsNzv) s t ∧ MemOnlyAt [p] s t :=
  ⟨_, h, by simp, setsLogic8_of_ccr (modifyMem_ccr s _ p), onlyChanges_modifyMem (keepsFlags_logic8 _ s.ccr),
    memOnlyAt_modifyMem _ p s⟩

/-- An instruction that is a bit branch on a test, which on the masked byte decides `taken`, branches if so and sets N, Z and V
from the masked byte (43 R201, R202). -/
theorem branchesOnBits_of {i : Instr} {s : State} {test : Byte → Bool} {m : EaNoExt} {mask rr : Byte} {taken : Prop}
    [Decidable taken] (h : exec i s = .next (bitBranch test m mask rr s))
    (htest : test (s.byteAt (ea m.toEa s) &&& mask) = true ↔ taken) :
    ∃ t, exec i s = .next t ∧
      (t.pc.toNat : Int) = (if taken then (s.pc.toNat + rr.toInt) % 65536 else s.pc.toNat) ∧
      SetsLogic8 (s.byteAt (ea m.toEa s) &&& mask) t ∧ OnlyChanges (.pc :: partsNzv) s t := by
  refine ⟨_, h, ?_, setsLogic8_of_ccr (bitBranch_ccr s test m mask rr), onlyChanges_bitBranch test m mask rr s⟩
  simp only [bitBranch_pc, htest]
  split
  · exact branchTarget_toNat rr s
  · rfl

/-! ## The obligations -/

/-- Settles O49: each changes the byte at EA by one bitwise operation with the mask and sets the flags of `logic8`. -/
theorem bitSetAndClear : Obligations.BitSetAndClear := by
  intro m mask s
  exact ⟨changesByteAt_of_logic8 (op := fun v => v ||| mask) rfl,
    changesByteAt_of_logic8 (op := fun v => v &&& ~~~mask) rfl⟩

/-- Settles O50: each is a bit branch, which brset takes when the masked byte is the mask and brclr when it is 0. -/
theorem bitBranches : Obligations.BitBranches := by
  intro m mask rr s
  exact ⟨branchesOnBits_of (test := fun t => t == mask) rfl beq_iff_eq,
    branchesOnBits_of (test := fun t => t == 0x00) rfl beq_iff_eq⟩

end Sys2Proof.Machine
end

section
/-! # Control transfer (44_control_transfer.md): the conditions of the branches, and the return address that a call leaves on the
stack -/

namespace Sys2Proof.Machine

open Sys2Proof

/-! ## Calls -/

/-- All that a call does besides the jump itself: the return address is on the stack, high byte lower (44 R219, R221; 20_memory.md
R55). -/
theorem call_spec (target : Word) (s : State) :
    ((push16 s.pc s).setPc target).byteAt s.sp = loByte s.pc ∧
      ((push16 s.pc s).setPc target).byteAt (s.sp - 1) = hiByte s.pc ∧
      ((push16 s.pc s).setPc target).sp = s.sp - 2 ∧ OnlyChanges [.pc, .sp, .mem] s ((push16 s.pc s).setPc target) ∧
      MemOnlyAt [s.sp, s.sp - 1] s ((push16 s.pc s).setPc target) := by
  obtain ⟨-, hsp, -, hmem⟩ := push16_spec s.pc s
  have hne : s.sp ≠ s.sp - 1#16 := by bv_omega
  exact ⟨by simp [hne], by simp, hsp, by simp, hmem⟩

/-- A push keeps PC, so a branch after it has the same target (44 R219). -/
theorem branchTarget_push16 (rr : Byte) (v : Word) (s : State) : branchTarget rr (push16 v s) = branchTarget rr s := by
  simp [branchTarget]

theorem exec_bsr (rr : Byte) (s : State) : exec (.bsr rr) s = .next ((push16 s.pc s).setPc (branchTarget rr s)) := by
  rw [← branchTarget_push16 rr s.pc s]
  rfl

/-! ## The obligations -/

/-- Settles O51: each is `branchIf` of its condition, a Boolean of C, Z, V and N; N XOR V is that the two differ. -/
theorem conditionalBranches : Obligations.ConditionalBranches := by
  intro s
  have hset (f : Flag) : s.flag f = decide (s.flag f = true) := Bool.decide_eq_true.symm
  have hclear (f : Flag) : (!s.flag f) = decide (s.flag f = false) := Bool.decide_eq_false.symm
  have hlt : (s.flag .n ^^ s.flag .v) = decide (s.flag .n ≠ s.flag .v) := by
    rw [Bool.eq_iff_iff, Bool.xor_iff_ne, decide_eq_true_iff]
  have hge : (!(s.flag .n ^^ s.flag .v)) = decide (s.flag .n = s.flag .v) := by rw [hlt, decide_not, Bool.not_not]
  refine ⟨branches_of (fun _ => rfl) rfl, branches_of (fun _ => rfl) rfl,
    branches_of (fun _ => rfl) ?bhi, branches_of (fun _ => rfl) ?bls,
    branches_of (fun _ => rfl) (hclear .c), branches_of (fun _ => rfl) (hset .c),
    branches_of (fun _ => rfl) (hclear .z), branches_of (fun _ => rfl) (hset .z),
    branches_of (fun _ => rfl) (hclear .v), branches_of (fun _ => rfl) (hset .v),
    branches_of (fun _ => rfl) (hclear .n), branches_of (fun _ => rfl) (hset .n),
    branches_of (fun _ => rfl) hge, branches_of (fun _ => rfl) hlt,
    branches_of (fun _ => rfl) ?bgt, branches_of (fun _ => rfl) ?ble⟩
  case bhi => rw [Bool.decide_and, ← hclear, ← hclear]
  case bls => rw [Bool.decide_or, ← hset, ← hset]
  case bgt => rw [Bool.decide_and, ← hclear, ← hge]
  case ble => rw [Bool.decide_or, ← hset, ← hlt]

/-- Settles O53: jmp writes PC alone, jsr and bsr are calls, and rts pulls the word above SP into PC. -/
theorem jumpsAndCalls : Obligations.JumpsAndCalls := by
  intro s
  have hrts : (pullPc s).pc = joinBytes (s.byteAt (s.sp + 1)) (s.byteAt (s.sp + 2)) := by
    simp [State.wordAt, BitVec.add_assoc]
  exact ⟨fun m => ⟨_, rfl, rfl, by simp⟩, fun m => ⟨_, rfl, rfl, call_spec (ea m s) s⟩,
    fun rr => ⟨_, exec_bsr rr s, branchTarget_toNat rr s, call_spec (branchTarget rr s) s⟩,
    ⟨_, rfl, hrts, pullPc_sp s, by simp [pullPc]⟩⟩

end Sys2Proof.Machine
end

section
/-! # Condition codes (45_system.md): a single flag written, and the CCR written whole -/

namespace Sys2Proof.Machine

open Sys2Proof

/-- A flag other than X takes the value written, and nothing else changes (10_state.md R25). -/
theorem putFlag_spec {f : Flag} (hf : f ≠ .x) (k : Bool) (s : State) :
    (s.putFlag f k).flag f = k ∧ OnlyChanges [.flag f] s (s.putFlag f k) :=
  ⟨by simp [hf], by simp⟩

/-- A frame that lists every flag says nothing of the CCR. -/
theorem keepsFlags_of_all {parts : List Part} (hall : ∀ f : Flag, .flag f ∈ parts) (c c' : Byte) : KeepsFlags parts c c' :=
  fun f hf => absurd (hall f) hf

theorem flag_mem_allFlags (f : Flag) : Part.flag f ∈ [Flag.c, .v, .z, .n, .i, .h, .x, .s].map Part.flag :=
  List.mem_map_of_mem (by cases f <;> decide)

/-- Settles O54: six are `putFlag` of C, V or I, tap writes the CCR and tpa writes A, each by one write; nop is the identity. -/
theorem flagInstructions : Obligations.FlagInstructions := by
  intro s
  have hflag {i : Instr} {f : Flag} {k : Bool} (h : exec i s = .next (s.putFlag f k)) (hf : f ≠ .x) :
      ∃ t, exec i s = .next t ∧ t.flag f = k ∧ OnlyChanges [.flag f] s t := ⟨_, h, putFlag_spec hf k s⟩
  have htap : OnlyChanges ([.c, .v, .z, .n, .i, .h, .x, .s].map .flag) s (s.setCcr (setCcrByte s.a s.ccr)) :=
    .setCcr (.refl _ s) (keepsFlags_of_all flag_mem_allFlags _ _)
  exact ⟨hflag rfl (by decide), hflag rfl (by decide), hflag rfl (by decide), hflag rfl (by decide), hflag rfl (by decide),
    hflag rfl (by decide), ⟨_, rfl, rfl, htap⟩, ⟨_, rfl, rfl, by simp⟩, rfl⟩

end Sys2Proof.Machine
end

section
/-! # Steps that never fail, and the breakpoints polled after them (60_exceptions.md): when the latch is armed, and what the poll
reports -/

namespace Sys2Proof.Machine

open Sys2Proof

/-! ## The step of a core that does not run -/

theorem step_idle {s : State} (h : s.status ≠ .running) : step s = .next (idleStep s) := by simp [step, h]

/-- Settles O7: an instruction's meaning answers a next state whatever was fetched, and so does an idle step. -/
theorem stepNeverFails : Obligations.StepNeverFails := by
  intro s
  by_cases hr : s.status = .running
  · obtain ⟨u, hu⟩ := exec_next (fetchInstr s) (beginInstr (fetchInstr s) s)
    exact ⟨_, step_eq hr hu⟩
  · exact ⟨_, step_idle hr⟩

/-- Settles O8: the idle step writes last_pc, the cycles and the step's events. -/
theorem idleStep_spec : Obligations.IdleStep := by
  intro s h
  rw [step_idle h, idleStep_eq]

/-! ## The breakpoint latch (60_exceptions.md R253) -/

/-- The breakpoint set that an access of a kind is looked up in; a fetch is looked up in none. -/
def Bus.breaksOf (k : BusKind) (u : Bus) : List Word :=
  match k with
  | .read => u.readBreaks
  | .write => u.writeBreaks
  | .fetch => []

@[simp] theorem Bus.emit_breaksOf (e : Event) (u : Bus) (k : BusKind) : (u.emit e).breaksOf k = u.breaksOf k := rfl
@[simp] theorem Bus.emit_pending (e : Event) (u : Bus) : (u.emit e).pending = u.pending := rfl

theorem Bus.arm_pending (k : BusKind) (p i : Word) (u : Bus) :
    (u.arm k p i).pending = if p ∈ u.breaksOf k then some i else u.pending := by
  cases k
  case fetch => rfl
  all_goals
    simp only [Bus.arm, List.contains_iff_mem, apply_ite Bus.pending]
    rfl

/-- Only the handler's own entry for the address arms the latch. -/
theorem Bus.notifyOne_pending (k : BusKind) (p i : Word) (u : Bus) (e : TrapEntry) :
    (u.notifyOne k p i e).pending =
      if ⟨p, .breakpoints⟩ = e ∧ p ∈ u.breaksOf k then some i else u.pending := by
  obtain ⟨q, o⟩ := e
  by_cases hq : q = p
  · by_cases hp : p ∈ u.breaksOf k <;> cases o <;> simp [Bus.notifyOne, hq, hp, Bus.arm_pending]
  · simp [Bus.notifyOne, hq, Ne.symm hq]

@[simp] theorem Bus.notifyOne_breaksOf (k : BusKind) (p i : Word) (u : Bus) (e : TrapEntry) (k' : BusKind) :
    (u.notifyOne k p i e).breaksOf k' = u.breaksOf k' := by
  obtain ⟨l, q, h, -⟩ := Bus.notifyOne_spec k p i u e
  rw [h]
  rfl

theorem Bus.notifyAll_pending (k : BusKind) (p i : Word) (es : List TrapEntry) (u : Bus) :
    (es.foldl (Bus.notifyOne k p i) u).pending =
      if ⟨p, .breakpoints⟩ ∈ es ∧ p ∈ u.breaksOf k then some i else u.pending := by
  induction es generalizing u with
  | nil => simp
  | cons e es ih =>
    rw [List.foldl_cons, ih, Bus.notifyOne_breaksOf, Bus.notifyOne_pending]
    by_cases hp : p ∈ u.breaksOf k <;> by_cases he : ⟨p, .breakpoints⟩ = e <;> simp [hp, he]

/-- An access leaves the latch as it was, or arms it with the instruction's address. -/
theorem Bus.access_pending (k : BusKind) (p : Word) (v : Byte) (i : Word) (u : Bus) :
    (u.access k p v i).pending = if ⟨p, .breakpoints⟩ ∈ u.traps ∧ p ∈ u.breaksOf k then some i else u.pending :=
  Bus.notifyAll_pending k p i u.traps (u.emit (.bus k p v i))

theorem memRead8_pending (p : Word) (s : State) :
    (memRead8 p s).2.bus.pending =
      if ⟨p, .breakpoints⟩ ∈ s.bus.traps ∧ p ∈ s.bus.readBreaks then some s.lastPc else s.bus.pending :=
  Bus.access_pending .read p (s.byteAt p) s.lastPc s.bus

theorem memWrite8_pending (p : Word) (v : Byte) (s : State) :
    (memWrite8 p v s).bus.pending =
      if ⟨p, .breakpoints⟩ ∈ s.bus.traps ∧ p ∈ s.bus.writeBreaks then some s.lastPc else s.bus.pending :=
  Bus.access_pending .write p v s.lastPc s.bus

@[simp] theorem beginInstr_pending (i : Instr) (s : State) : (beginInstr i s).bus.pending = s.bus.pending := rfl

/-- Settles O20: a read and a write are each one access of the bus; beginning an instruction replaces the events alone. -/
theorem breakpointLatchArming : Obligations.BreakpointLatchArming :=
  fun s addr v i => ⟨memRead8_pending addr s, memWrite8_pending addr v s, beginInstr_pending i s⟩

/-! ## The poll after a step (60_exceptions.md R254) -/

theorem checkAfterStep_of_pending {s : State} {p : Word} (h : s.bus.pending = some p) :
    checkAfterStep s = (some p, s.setBus { s.bus with pending := none }) := by
  simp [checkAfterStep, h]

theorem checkAfterStep_of_execBreak {s : State} (h : s.bus.pending = none) (hpc : s.pc ∈ s.bus.execBreaks) :
    checkAfterStep s = (some s.pc, s) := by
  simp [checkAfterStep, h, hpc]

theorem checkAfterStep_of_none {s : State} (h : s.bus.pending = none) (hpc : s.pc ∉ s.bus.execBreaks) :
    checkAfterStep s = (none, s) := by
  simp [checkAfterStep, h, hpc]

/-- Settles O21: an armed latch is reported and cleared; with it clear the execute set decides. -/
theorem checkAfterStep_spec : Obligations.CheckAfterStep :=
  fun _ => ⟨fun _ h => checkAfterStep_of_pending h, checkAfterStep_of_execBreak, checkAfterStep_of_none⟩

/-! ## A read breakpoint on a load (60_exceptions.md R255) -/

/-- After `addReadBreak` the handler is registered for the address and the address is in the read set. -/
theorem addReadBreak_watches {a : Word} {s : State} (h : a ∉ s.bus.readBreaks) :
    ⟨a, .breakpoints⟩ ∈ (addReadBreak a s).bus.traps ∧ a ∈ (addReadBreak a s).bus.readBreaks := by
  simp [addReadBreak, addTrap, h]

/-- `addReadBreak` changes the bus alone. -/
theorem addReadBreak_eq_setBus (a : Word) (s : State) : addReadBreak a s = s.setBus (addReadBreak a s).bus := by
  unfold addReadBreak
  split <;> rfl

@[simp] theorem addReadBreak_status (a : Word) (s : State) : (addReadBreak a s).status = s.status := by
  rw [addReadBreak_eq_setBus]; rfl
@[simp] theorem addReadBreak_pc (a : Word) (s : State) : (addReadBreak a s).pc = s.pc := by
  rw [addReadBreak_eq_setBus]; rfl
@[simp] theorem fetchInstr_addReadBreak (a : Word) (s : State) : fetchInstr (addReadBreak a s) = fetchInstr s := by
  rw [addReadBreak_eq_setBus]; rfl
@[simp] theorem ea_addReadBreak (m : Ea) (a : Word) (s : State) : ea m (addReadBreak a s) = ea m s := by
  rw [addReadBreak_eq_setBus]; cases m <;> rfl
@[simp] theorem ea_beginInstr (m : Ea) (i : Instr) (s : State) : ea m (beginInstr i s) = ea m s := by cases m <;> rfl

/-- All that ldaa and ldab with a memory operand do to the bus is one read at EA (40 R104, R105; 30_encoding.md R83). -/
theorem exec_load_bus {i : Instr} {m : Ea} {s t : State} (hi : i = .ldaa (.mem m) ∨ i = .ldab (.mem m))
    (h : exec i s = .next t) : t.bus = (memRead8 (ea m s) s).2.bus := by
  rcases hi with rfl | rfl <;> (cases h; rfl)

/-- A step that loads from a watched address arms the latch with the load's own address. -/
theorem step_load_pending {s t : State} {m : Ea} (hr : s.status = .running)
    (hi : fetchInstr s = .ldaa (.mem m) ∨ fetchInstr s = .ldab (.mem m))
    (hwatch : ⟨ea m s, .breakpoints⟩ ∈ s.bus.traps ∧ ea m s ∈ s.bus.readBreaks) (h : step s = .next t) :
    t.bus.pending = some s.pc := by
  rcases step_cases h with ⟨-, u, hu, rfl⟩ | ⟨hn, -⟩
  · have hbus := exec_load_bus hi hu
    calc u.bus.pending
        = (memRead8 (ea m s) (beginInstr (fetchInstr s) s)).2.bus.pending := by rw [hbus, ea_beginInstr]
      _ = some s.pc := (memRead8_pending _ _).trans (if_pos hwatch)
  · exact absurd hr hn

/-- Settles O22: the load arms the latch, the first poll reports and clears it, and the second has only the execute set. -/
theorem readBreakpointHaltsAtTheInstruction : Obligations.ReadBreakpointHaltsAtTheInstruction := by
  intro s t m hr _ hnew hi h
  have hlatch : t.bus.pending = some s.pc := by
    simpa using step_load_pending (by simpa using hr) (by simpa using hi) (by simpa using addReadBreak_watches hnew) h
  simp only [checkAfterStep_of_pending hlatch, true_and]
  intro hpc
  have hquiet := checkAfterStep_of_none (s := t.setBus { t.bus with pending := none }) rfl hpc
  rw [hquiet]

end Sys2Proof.Machine
end

section
/-! # The software interrupt (60_exceptions.md R241 to R244): the frame of swi and wai, and the return that reads it back -/

namespace Sys2Proof.Machine

open Sys2Proof

/-! ## The frame as it is stacked -/

/-- The nine addresses of the frame stacked at p. -/
def frameAddrs (p : Word) : List Word := (List.range 9).map fun n => p - BitVec.ofNat 16 n

/-- The nine bytes of the frame, each at its own address: nine distances below SP differ. -/
theorem pushFrame_bytes (s : State) :
    (pushFrame s).byteAt s.sp = loByte s.pc ∧ (pushFrame s).byteAt (s.sp - 1) = hiByte s.pc ∧
      (pushFrame s).byteAt (s.sp - 2) = loByte s.y ∧ (pushFrame s).byteAt (s.sp - 3) = hiByte s.y ∧
      (pushFrame s).byteAt (s.sp - 4) = loByte s.x ∧ (pushFrame s).byteAt (s.sp - 5) = hiByte s.x ∧
      (pushFrame s).byteAt (s.sp - 6) = s.a ∧ (pushFrame s).byteAt (s.sp - 7) = s.b ∧
      (pushFrame s).byteAt (s.sp - 8) = s.ccr := by
  simp [pushFrame_byteAt, eq_sub_iff]

/-- The words of the frame lie big-endian (20_memory.md R55). -/
theorem pushFrame_words (s : State) :
    (pushFrame s).wordAt (s.sp - 1) = s.pc ∧ (pushFrame s).wordAt (s.sp - 3) = s.y ∧
      (pushFrame s).wordAt (s.sp - 5) = s.x := by
  simp [State.wordAt, pushFrame_byteAt, sub_add, eq_sub_iff]

theorem memOnlyAt_pushFrame (s : State) : MemOnlyAt (frameAddrs s.sp) s (pushFrame s) := by
  intro w hw
  simp only [frameAddrs, List.range_succ, List.range_zero, List.nil_append, List.cons_append, List.map_cons, List.map_nil,
    BitVec.sub_zero, List.mem_cons, List.not_mem_nil, or_false, not_or] at hw
  simp [pushFrame_byteAt, hw]

theorem memOnlyAt_takeTrap (s : State) : MemOnlyAt (frameAddrs s.sp) s (takeTrap s) :=
  fun w hw => (takeTrap_byteAt s w).trans (memOnlyAt_pushFrame s w hw)

/-! ## What the trap and the return change -/

namespace OnlyChanges

section
variable {parts : List Part} {s t : State}

@[simp] theorem setStatus_iff (v : Status) (h : .status ∈ parts) :
    OnlyChanges parts s (t.setStatus v) ↔ OnlyChanges parts s t :=
  iff_of_part h fun p hp => by cases p <;> simp [Part.same] at hp ⊢

@[simp] theorem pushFrame_iff (hsp : .sp ∈ parts) (hmem : .mem ∈ parts) :
    OnlyChanges parts s (pushFrame t) ↔ OnlyChanges parts s t := by
  simp [pushFrame, hsp, hmem]

@[simp] theorem jumpThrough_iff (v : Word) (h : .pc ∈ parts) :
    OnlyChanges parts s (jumpThrough v t) ↔ OnlyChanges parts s t := by
  simp [jumpThrough, memRead16, h]

end

end OnlyChanges

theorem onlyChanges_takeTrap (s : State) : OnlyChanges [.pc, .sp, .mem, .flag .i] s (takeTrap s) := by
  simp [takeTrap]

/-- A return writes the registers and every flag. -/
theorem onlyChanges_returnFromTrap (s : State) :
    OnlyChanges ([.a, .b, .x, .y, .sp, .pc] ++ [.c, .v, .z, .n, .i, .h, .x, .s].map .flag) s (returnFromTrap s) := by
  have hccr : OnlyChanges ([.a, .b, .x, .y, .sp, .pc] ++ [.c, .v, .z, .n, .i, .h, .x, .s].map .flag) s (pullCcr s) :=
    .setCcr (by simp) (keepsFlags_of_all (fun f => List.mem_append_right _ (flag_mem_allFlags f)) _ _)
  simpa [returnFromTrap, pullPc, pullY, pullX, pullA, pullB] using hccr

/-! ## The obligations -/

/-- Settles O55: `takeTrap` stacks the frame, sets I, and then reads the vector. -/
theorem softwareInterruptEntry : Obligations.SoftwareInterruptEntry := by
  intro s
  obtain ⟨hpcl, hpch, hyl, hyh, hxl, hxh, ha, hb, hccr⟩ := pushFrame_bytes s
  refine ⟨takeTrap s, rfl, ?_⟩
  simp only [takeTrap_byteAt]
  exact ⟨hpcl, hpch, hyl, hyh, hxl, hxh, ha, hb, hccr, takeTrap_sp s, by simp [State.flag_eq], takeTrap_pc s,
    onlyChanges_takeTrap s, memOnlyAt_takeTrap s⟩

theorem exec_stop_of_s_clear {s : State} (h : s.flag .s = false) : exec .stop s = .next (s.setStatus .stopped) :=
  congrArg Host.Outcome.next (if_neg (by simp [h]))

theorem exec_stop_of_s_set {s : State} (h : s.flag .s = true) : exec .stop s = .next s :=
  congrArg Host.Outcome.next (if_pos h)

/-- Settles O56: rti is `returnFromTrap`, wai is `pushFrame` and the status, and stop the status alone or nothing. -/
theorem returnWaitAndStop : Obligations.ReturnWaitAndStop := by
  intro s
  obtain ⟨-, -, -, -, -, -, ha, hb, hccr⟩ := pushFrame_bytes s
  obtain ⟨hpc, hy, hx⟩ := pushFrame_words s
  refine ⟨⟨_, rfl, returnFromTrap_ccr s, returnFromTrap_b s, returnFromTrap_a s, returnFromTrap_x s, returnFromTrap_y s,
      returnFromTrap_pc s, returnFromTrap_sp s, onlyChanges_returnFromTrap s⟩,
    ⟨_, rfl, hpc, hy, hx, ha, hb, hccr, pushFrame_sp s, rfl, by simp, memOnlyAt_pushFrame s⟩,
    fun h => ⟨_, exec_stop_of_s_clear h, rfl, by simp⟩, exec_stop_of_s_set⟩

/-- SetCCR of the CCR as it was undoes the write of I, X included: the write of I keeps X. -/
theorem setCcrByte_putFlag_i (c : Byte) (k : Bool) : setCcrByte c (putFlag .i k c) = c := by
  revert c k; decide

/-- The frame is read back as it was stacked. -/
theorem returnFromTrap_takeTrap (s : State) :
    (returnFromTrap (takeTrap s)).a = s.a ∧ (returnFromTrap (takeTrap s)).b = s.b ∧
      (returnFromTrap (takeTrap s)).x = s.x ∧ (returnFromTrap (takeTrap s)).y = s.y ∧
      (returnFromTrap (takeTrap s)).sp = s.sp ∧ (returnFromTrap (takeTrap s)).pc = s.pc ∧
      (returnFromTrap (takeTrap s)).ccr = s.ccr := by
  obtain ⟨-, -, -, -, -, -, ha, hb, hccr⟩ := pushFrame_bytes s
  obtain ⟨hpc, hy, hx⟩ := pushFrame_words s
  refine ⟨?a, ?b, ?x, ?y, ?sp, ?pc, ?ccr⟩
  case a => simpa [returnFromTrap_a, sub_add] using ha
  case b => simpa [returnFromTrap_b, sub_add] using hb
  case x => simpa [returnFromTrap_x, sub_add, State.wordAt] using hx
  case y => simpa [returnFromTrap_y, sub_add, State.wordAt] using hy
  case sp => simp [returnFromTrap_sp]
  case pc => simpa [returnFromTrap_pc, sub_add, State.wordAt] using hpc
  case ccr =>
    have hccr' : (pushFrame s).byteAt (s.sp - 9 + 1) = s.ccr := by simpa [sub_add] using hccr
    rw [returnFromTrap_ccr, takeTrap_byteAt, takeTrap_sp, takeTrap_ccr, hccr', setCcrByte_putFlag_i]

/-- Settles O57: every register and the CCR is restored, and a return stores nothing. -/
theorem returnUndoesSoftwareInterrupt : Obligations.ReturnUndoesSoftwareInterrupt := by
  intro s
  obtain ⟨ha, hb, hx, hy, hsp, hpc, hccr⟩ := returnFromTrap_takeTrap s
  refine ⟨takeTrap s, returnFromTrap (takeTrap s), rfl, rfl, ?_, ?_⟩
  · intro p hp
    cases p
    case mem => simp at hp
    all_goals simp [Part.same, State.flag_eq, ha, hb, hx, hy, hsp, hpc, hccr]
  · exact fun w hw => (returnFromTrap_byteAt (takeTrap s) w).trans (memOnlyAt_takeTrap s w hw)

end Sys2Proof.Machine
end

section
/-! # Reset, loading and pacing (70_reset_and_hazards.md) -/

namespace Sys2Proof.Machine

open Sys2Proof

/-! ## Slices of polled steps (R266, R267) -/

/-- A polled step always completes: it is the halt its poll reports beside the state after the poll. -/
theorem polledStep_eq (s : State) : polledStep s = .next (haltAfter s, afterPoll s) := by
  obtain ⟨t, -, h⟩ := polledStep_next s
  simp [haltAfter, afterPoll, h]

/-- What an end says of a slice that took `k` steps. -/
def SliceEnd.Closes (bound budget k : Nat) (s : State) : SliceEnd → Prop
  | .budget => budget ≤ charged k s
  | .halted _ => 0 < k
  | .stepBound => k = bound ∧ charged k s < budget

/-- A slice of no steps has polled nothing, so it leaves no halt. -/
theorem SliceEnd.Closes.halt_eq_none {bound budget : Nat} {s : State} :
    ∀ {e : SliceEnd}, e.Closes bound budget 0 s → e.halt = none
  | .budget, _ => rfl
  | .halted _, h => absurd h (Nat.lt_irrefl 0)
  | .stepBound, _ => rfl

/-- What an end says of the steps after the first, it says of them all: the rest's budget is what the first step left. -/
theorem SliceEnd.Closes.succ {bound budget k : Nat} {s : State} {e : SliceEnd}
    (h : e.Closes bound (budget - ((afterPoll s).cycles - s.cycles).toNat) k (afterPoll s)) :
    e.Closes (bound + 1) budget (k + 1) s := by
  cases e with
  | budget => simp only [Closes, charged] at h ⊢; omega
  | halted p => exact Nat.succ_pos k
  | stepBound => simp only [Closes, charged] at h ⊢; omega

/-- The slice answers `k` polled steps and the end `e`: the budget is open before each of them, and only the last may report a
halt, the one that `e` names. -/
structure IsSlice (bound budget : Nat) (s : State) (k : Nat) (e : SliceEnd) : Prop where
  le_bound : k ≤ bound
  runs : runSlice bound budget s = .next (e, polledSteps k s)
  below : ∀ j < k, charged j s < budget
  polls : ∀ j < k, haltAfter (polledSteps j s) = if j + 1 = k then e.halt else none
  closes : e.Closes bound budget k s

namespace IsSlice

/-- No budget, no step. -/
theorem budget_zero (bound : Nat) (s : State) : IsSlice bound 0 s 0 .budget where
  le_bound := Nat.zero_le bound
  runs := runSlice_budget_zero bound s
  below _ hj := absurd hj (Nat.not_lt_zero _)
  polls _ hj := absurd hj (Nat.not_lt_zero _)
  closes := Nat.le_refl 0

/-- The bound is used up while the budget is open. -/
theorem bound_zero {budget : Nat} (hb : budget ≠ 0) (s : State) : IsSlice 0 budget s 0 .stepBound where
  le_bound := Nat.le_refl 0
  runs := by simp [runSlice, hb, polledSteps]
  below _ hj := absurd hj (Nat.not_lt_zero _)
  polls _ hj := absurd hj (Nat.not_lt_zero _)
  closes := ⟨rfl, Nat.pos_of_ne_zero hb⟩

/-- The first poll reports a halt. -/
theorem of_halt {budget : Nat} (hb : budget ≠ 0) {s : State} {p : Word} (hp : haltAfter s = some p) (bound : Nat) :
    IsSlice (bound + 1) budget s 1 (.halted p) where
  le_bound := Nat.succ_pos bound
  runs := by simp [runSlice_succ (polledStep_eq s) bound hb, hp, polledSteps]
  below j hj := by obtain rfl := Nat.lt_one_iff.mp hj; exact Nat.pos_of_ne_zero hb
  polls j hj := by obtain rfl := Nat.lt_one_iff.mp hj; simpa [polledSteps] using hp
  closes := Nat.one_pos

/-- The first poll reports none: the slice goes on with what is left of the budget. -/
theorem succ {bound budget k : Nat} {s : State} {e : SliceEnd} (hb : budget ≠ 0) (hp : haltAfter s = none)
    (h : IsSlice bound (budget - ((afterPoll s).cycles - s.cycles).toNat) (afterPoll s) k e) :
    IsSlice (bound + 1) budget s (k + 1) e where
  le_bound := Nat.succ_le_succ h.le_bound
  runs := by rw [runSlice_succ (polledStep_eq s) bound hb, hp]; exact h.runs
  below
    | 0, _ => Nat.pos_of_ne_zero hb
    | j + 1, hj => by
      have hrest := h.below j (Nat.lt_of_succ_lt_succ hj)
      simp only [charged]; omega
  polls
    | 0, _ => by
      cases k with
      | zero => simp [polledSteps, hp, h.closes.halt_eq_none]
      | succ k => simp [polledSteps, hp]
    | j + 1, hj => by simpa [polledSteps] using h.polls j (Nat.lt_of_succ_lt_succ hj)
  closes := h.closes.succ

end IsSlice

/-- Every bound and budget give a slice, by induction on the bound. -/
theorem exists_isSlice (bound budget : Nat) (s : State) : ∃ k e, IsSlice bound budget s k e := by
  induction bound generalizing budget s with
  | zero =>
    obtain rfl | hb := eq_or_ne budget 0
    · exact ⟨_, _, .budget_zero 0 s⟩
    · exact ⟨_, _, .bound_zero hb s⟩
  | succ bound ih =>
    obtain rfl | hb := eq_or_ne budget 0
    · exact ⟨_, _, .budget_zero (bound + 1) s⟩
    · cases hp : haltAfter s with
      | some p => exact ⟨_, _, .of_halt hb hp bound⟩
      | none =>
        obtain ⟨k, e, h⟩ := ih (budget - ((afterPoll s).cycles - s.cycles).toNat) (afterPoll s)
        exact ⟨_, _, h.succ hb hp⟩

/-! ## A turn of the loop (R267) -/

/-- With the run flag set and no halt, a turn is its slice and one call of each display. -/
theorem Pacer.turn_true {p : Pacer} (hp : p.halt = none) {e : SliceEnd} {t : State}
    (h : runSlice p.bound (sliceBudget p.clock p.refresh) p.core = .next (e, t)) :
    p.turn true = .next { p with core := t, displays := visualUpdateAll p.displays, halt := e.halt } := by
  simp [Pacer.turn, hp, h]

theorem Pacer.turn_of_halted {p : Pacer} (hp : p.halt ≠ none) (runFlag : Bool) : p.turn runFlag = .next p :=
  if_neg fun h => hp h.2

/-- Settles O60: every slice is an `IsSlice`, and a turn runs one or does nothing. -/
theorem pacingRunsPolledSlices : Obligations.PacingRunsPolledSlices := by
  refine ⟨fun bound budget s => ?slice, fun p hp => ?turn, fun p => ⟨p.turn_false, Pacer.turn_of_halted⟩⟩
  case slice =>
    obtain ⟨k, e, h⟩ := exists_isSlice bound budget s
    exact ⟨k, e, h.le_bound, h.runs, fun j hj => ⟨h.below j hj, h.polls j hj⟩, h.closes⟩
  case turn =>
    obtain ⟨_, e, h⟩ := exists_isSlice p.bound (sliceBudget p.clock p.refresh) p.core
    exact ⟨e, _, h.runs, Pacer.turn_true hp h.runs⟩

/-! ## Loading (R262, R263) -/

/-- The address of the next byte of a block, from the block's own start and from the rest's. -/
theorem add_ofNat_succ (addr : Word) (k : Nat) : addr + BitVec.ofNat 16 (k + 1) = addr + 1 + BitVec.ofNat 16 k := by
  rw [Nat.add_comm, BitVec.ofNat_add, ← BitVec.add_assoc]; rfl

@[simp] theorem writeSilent_byteAt (s : State) (addr w : Word) (v : Byte) :
    (writeSilent addr v s).byteAt w = if w = addr then v else s.byteAt w := State.storeSilent_byteAt s addr w v

/-- A block goes to memory alone. -/
theorem writeMemBlock_eq_setMem (addr : Word) (bytes : List Byte) (s : State) :
    writeMemBlock addr bytes s = s.setMem (writeMemBlock addr bytes s).mem := by
  induction bytes generalizing addr s with
  | nil => rfl
  | cons v rest ih => exact ih (addr + 1) (writeSilent addr v s)

theorem writeMemBlock_byteAt_outside {addr w : Word} {bytes : List Byte} (s : State)
    (h : ∀ k < bytes.length, w ≠ addr + BitVec.ofNat 16 k) : (writeMemBlock addr bytes s).byteAt w = s.byteAt w := by
  induction bytes generalizing addr s with
  | nil => rfl
  | cons v rest ih =>
    have hfirst : w ≠ addr := by simpa using h 0 (Nat.succ_pos _)
    have hrest : ∀ k < rest.length, w ≠ addr + 1 + BitVec.ofNat 16 k := fun k hk =>
      add_ofNat_succ addr k ▸ h (k + 1) (Nat.succ_lt_succ hk)
    calc (writeMemBlock addr (v :: rest) s).byteAt w
      _ = (writeSilent addr v s).byteAt w := ih _ hrest
      _ = s.byteAt w := by simp [hfirst]

/-- The last byte written to an address stays there. -/
theorem writeMemBlock_byteAt_inside {addr : Word} {bytes : List Byte} (s : State) {n : Nat} (hn : n < bytes.length)
    (hlast : ∀ k, n < k → k < bytes.length → addr + BitVec.ofNat 16 k ≠ addr + BitVec.ofNat 16 n) :
    (writeMemBlock addr bytes s).byteAt (addr + BitVec.ofNat 16 n) = bytes[n] := by
  induction bytes generalizing addr s n with
  | nil => exact absurd hn (Nat.not_lt_zero n)
  | cons v rest ih =>
    cases n with
    | zero =>
      have hrest : ∀ k < rest.length, addr + BitVec.ofNat 16 0 ≠ addr + 1 + BitVec.ofNat 16 k := fun k hk =>
        add_ofNat_succ addr k ▸ (hlast (k + 1) (Nat.succ_pos k) (Nat.succ_lt_succ hk)).symm
      calc (writeMemBlock addr (v :: rest) s).byteAt (addr + BitVec.ofNat 16 0)
        _ = (writeSilent addr v s).byteAt (addr + BitVec.ofNat 16 0) := writeMemBlock_byteAt_outside _ hrest
        _ = v := by simp
    | succ n =>
      rw [add_ofNat_succ]
      refine ih (writeSilent addr v s) (Nat.lt_of_succ_lt_succ hn) fun k hnk hk => ?_
      simpa only [add_ofNat_succ] using hlast (k + 1) (Nat.succ_lt_succ hnk) (Nat.succ_lt_succ hk)

/-- Settles O23: the byte at an address is the last one of the block that went there, by induction on the block. -/
theorem hostLoading : Obligations.HostLoading := fun addr bytes s =>
  ⟨rfl, writeMemBlock_eq_setMem addr bytes s, fun _ hn => writeMemBlock_byteAt_inside s hn,
    fun _ => writeMemBlock_byteAt_outside s⟩

/-! ## Reset (R259) -/

/-- The vector's second byte is at the last address: nothing wraps. -/
theorem State.wordAt_resetVector (s : State) : s.wordAt resetVector = joinBytes (s.byteAt 0xFFFE) (s.byteAt 0xFFFF) := rfl

/-- Settles O13: for each source of PC, `hostReset` read field by field. -/
theorem resetLeaves : Obligations.ResetLeaves := by
  refine ⟨fun src r s => ?_, rfl, rfl, rfl⟩
  cases src with
  | vector => simp only [hostReset, State.wordAt_resetVector]
  | host => rfl

end Sys2Proof.Machine
end
